-- ==== Sys2Proof/Word.lean ====
section
/-! DEFINITION. The words of the part: bytes of the serial link and knife positions, with their plainest arithmetic,
and fixed-size tables indexed by stand, zone, unit or channel. -/

namespace Sys2Proof

/-- One byte of the serial link (R188). -/
abbrev Byte := BitVec 8

/-- A knife position, or the line position E: a 32-bit count of the line encoder (section 0.7). -/
abbrev Pos := BitVec 32

/-- A raw conversion result, 0..4,095 (R138). -/
abbrev Raw := BitVec 12

/-- The signed distance from `e` to `p`: how far `p` lies ahead of `e` (R4: `(p − e) mod 2^32` read as signed). -/
def Pos.ahead (e p : Pos) : Int := (p - e).toInt

/-- The position `d` counts beyond `p`, modulo 2^32. -/
def Pos.plus (p : Pos) (d : Nat) : Pos := p + BitVec.ofNat 32 d

/-- The position `d` counts before `p`, modulo 2^32. -/
def Pos.minus (p : Pos) (d : Nat) : Pos := p - BitVec.ofNat 32 d

/-- The position at signed distance `d` from `p`. -/
def Pos.shift (p : Pos) (d : Int) : Pos := p + BitVec.ofInt 32 d

/-- Read a table at an index. -/
def tget {α : Type} {n : Nat} (t : Vector α n) (i : Fin n) : α := t[i.val]

/-- Write a table at an index. -/
def tset {α : Type} {n : Nat} (t : Vector α n) (i : Fin n) (x : α) : Vector α n := t.set i.val x i.isLt

/-- A table of one length, all entries alike. -/
def tfill {α : Type} (n : Nat) (x : α) : Vector α n := Vector.replicate n x

/-- Clamp an integer to a range. -/
def clampInt (lo hi x : Int) : Int := max lo (min hi x)

end Sys2Proof
end

