-- ==== Sys2Proof/Config.lean ====
section
/-! DEFINITION. The constants of the part and its FREE VALUES: what the spec leaves open is an opaque constant applied to
the counter `choice` of the state, so that no proof can see which value it takes. -/

namespace Sys2Proof
namespace Config

/-- FREE VALUE (log 3, 4, 11): which of several events that fall together is taken first. The k-th choice the part makes
takes the event of index `pick k`, modulo the number of events. R2: "they carry no order among themselves". -/
opaque pick : Nat → Nat

/-- FREE VALUE (log 6): the time left on a running timer, before it is held within the timer's length. The model has no
clock, so a READ that reports a time left reports this value modulo the length plus 1. -/
opaque timeLeft : Nat → Nat

/-- The most reject spans the map holds (R4). -/
def mapRoom : Nat := 48

/-- The most active orders the book holds (R24). -/
def bookRoom : Nat := 32

/-- The most completed orders kept (R36). -/
def completedRoom : Nat := 16

/-- The most finished stacks on the out-conveyor (R87). -/
def conveyorRoom : Nat := 4

/-- The most good frames in the receive queue (R191). -/
def queueRoom : Nat := 4

/-- The greatest payload of a frame in bytes (R189, R194). -/
def maxPayload : Nat := 1024

/-- The highest speed, 450.0 m/min (R3, R179). -/
def topSpeed : Nat := 4500

/-- The backtrack count holds here (R1). -/
def backtrackTop : Nat := 16777215

/-- The greatest distance beyond E of a newly accepted order's end, exclusive: 2^30 (R24). -/
def acceptReach : Int := 1073741824

/-- A placement pass that would place an end this far beyond E is not applied: 2^31 − 2^24 (R28). -/
def passReach : Int := 2130706432

/-- The number of events between blocks one step may take (log 5). -/
def cascadeBound : Nat := 20000

/-- A bound on the grid sheets one planning pass examines (log 5): more than the sheets that fit in 2^31 counts. -/
def planBound : Nat := 4294967296

end Config
end Sys2Proof
end

