-- ==== Sys2Proof/Syntax.lean ====
section
/-! DEFINITION. The commands of the part: one constructor of `Instr` for each row of spec/opcode_table.json, with the
operands its owning rule gives it, and the records those operands are made of. Request operands hold the values as the frame
carries them; the owning block checks their ranges and answers BAD_VALUE itself. -/

namespace Sys2Proof

/-- Stands S1..S7 are 0..6 here; the link numbers them 1..7 (R193). -/
abbrev Stand := Fin 7
/-- Zones P1..P7 and H1..H5 are 0..11 (R193). -/
abbrev Zone := Fin 12
/-- Glue units G1..G4 are 0..3 here; the link numbers them 1..4 (R193). -/
abbrev GlueUnit := Fin 4
/-- Scanner channels 0..15 (R137). -/
abbrev Channel := Fin 16

/-- The slitter stations (R63). -/
inductive Station | a | b
deriving DecidableEq, Repr

/-- The arms of a stand (R95). -/
inductive Arm | a | b
deriving DecidableEq, Repr

/-- The zone part of a grade: setpoint, low band, high band and base output (section 2.1). -/
structure ZoneRecipe where
  setpoint : Nat
  low : Nat
  high : Nat
  base : Nat
deriving DecidableEq, Repr

/-- One breakpoint of a glue unit: speed and gap (section 2.1). -/
structure Breakpoint where
  speed : Nat
  gap : Nat
deriving DecidableEq, Repr

/-- The four breakpoints of a glue unit (section 2.1). -/
abbrev GlueRecipe := Vector Breakpoint 4

/-- A grade record (section 2.1). -/
structure Grade where
  kinds : Vector Nat 7
  zones : Vector ZoneRecipe 12
  glue : Vector GlueRecipe 4
  cap : Nat
deriving DecidableEq, Repr

/-- The order record the host supplies in ADD_ORDER (section 2.2). -/
structure OrderSpec where
  id : Nat
  grade : Nat
  len : Nat
  ordered : Nat
  allowance : Nat
  stackSize : Nat
  width : Nat
  slits : List Nat
  scores : List Nat
  cap : Option Nat
  interval : Option Nat
deriving DecidableEq, Repr

/-- The roll fields the host supplies in LOAD_ROLL (section 6.2). -/
structure RollSpec where
  id : Nat
  kind : Nat
  width : Nat
  diameter : Nat
  core : Nat
  caliper : Nat
deriving DecidableEq, Repr

/-- The GEOMETRY section, fields in the order of section 11.6. -/
structure Geometry where
  cpm : Nat
  dFreeze : Nat
  headSpacing : Nat
  dSlit : Nat
  wSlit : Nat
  dGate : Nat
  dStack : Nat
  dStand : Vector Nat 7
  dZone : Vector Nat 12
  dGlue : Vector Nat 4
deriving DecidableEq, Repr

/-- The STANDS fields of one stand, in the order of section 11.6. -/
structure StandCfg where
  takeup : Nat
  reserve : Nat
  minRun : Nat
  tPaste : Nat
  tCut : Nat
  tTransfer : Nat
  spliceOffset : Nat
  wApproach : Nat
  guardBefore : Nat
  spliceLen : Nat
  guardAfter : Nat
deriving DecidableEq, Repr

/-- The DRYEND section, fields in the order of section 11.6. -/
structure DryEnd where
  kMin : Nat
  cMax : Nat
  wasteLen : Nat
  knifeCycle : Nat
  setTime : Nat
  fingerWarn : Nat
deriving DecidableEq, Repr

/-- The scaling of one scanner channel (R138). -/
structure Scaling where
  lo : Int
  hi : Int
deriving DecidableEq, Repr

/-- The gains of one zone (section 8.1). -/
structure Gains where
  kp : Nat
  ki : Nat
deriving DecidableEq, Repr

/-- The ZONES section, fields in the order of section 11.6. -/
structure ZonesCfg where
  scanDiv : Nat
  channels : Vector Scaling 16
  gains : Vector Gains 12
  probeHold : Nat
  heatGrace : Nat
  heatSlow : Nat
  supplySettle : Nat
  gapMin : Nat
  gapMax : Nat
  gapDeadband : Nat
  gapTol : Nat
  gapMoveTime : Nat
deriving DecidableEq, Repr

/-- The GOVERNOR section, fields in the order of section 11.6. -/
structure GovCfg where
  accelStep : Nat
  decelStep : Nat
  fastStep : Nat
  crawlSpeed : Nat
  spliceSpeed : Nat
  glueLift : Nat
deriving DecidableEq, Repr

/-- What CONFIGURE carries: a section code and the section's fields (R172). A code other than the five carries no
section. -/
inductive Section
  | geometry (g : Geometry)
  | stands (c : Vector StandCfg 7)
  | dryend (d : DryEnd)
  | zones (z : ZonesCfg)
  | governor (g : GovCfg)
  | other (code : Nat)
deriving DecidableEq, Repr

/-- The commands: one constructor for each row of spec/opcode_table.json. A request carries the tag of its frame (R194) and
the fields its owning rule gives it. -/
inductive Instr
  /-- POWER_ON: the two rate straps (high is true), and the levels found on the ESTOP and PRESSURE OK inputs. -/
  | powerOn (strap1 strap2 estop pressure : Bool)
  /-- RESET_PART (R198). -/
  | resetPart (tag : Byte)
  /-- FORWARD_COUNT (R1). -/
  | forwardCount
  /-- REVERSE_COUNT (R1). -/
  | reverseCount
  /-- GOVERNOR_PERIOD_EXPIRY (R181). -/
  | governorPeriodExpiry
  /-- PLAN_REFRESH_EXPIRY (R28). -/
  | planRefreshExpiry
  /-- ZONE_PERIOD_EXPIRY (R144). -/
  | zonePeriodExpiry
  /-- KNIFE_CYCLE_EXPIRY (R52). -/
  | knifeCycleExpiry
  /-- SET_TIMER_EXPIRY of a station (R65). -/
  | setTimerExpiry (st : Station)
  /-- SET_DONE input of a station (R65). -/
  | setDone (st : Station)
  /-- PASTE_FAIL: the stage timer of a stand expires in PASTE (R128). -/
  | pasteFail (n : Stand)
  /-- CUT_FAIL: the stage timer of a stand expires in CUT (R129). -/
  | cutFail (n : Stand)
  /-- TRANSFER_EXPIRY: the stage timer of a stand expires in TRANSFER (R123). -/
  | transferExpiry (n : Stand)
  /-- PASTED input of a stand (R121). -/
  | pasted (n : Stand)
  /-- CUT input of a stand (R122). -/
  | cutInput (n : Stand)
  /-- WEB LOST input of a stand (R102). -/
  | webLost (n : Stand)
  /-- PREPARED input of a stand (R105). -/
  | prepared (n : Stand)
  /-- TRANSFER DONE input (R86). -/
  | transferDone
  /-- STACK TAKEN input (R87). -/
  | stackTaken
  /-- ARRIVED input of a glue unit (R160). -/
  | arrived (u : GlueUnit)
  /-- MOVE_TIMER_EXPIRY of a glue unit (R160). -/
  | moveTimerExpiry (u : GlueUnit)
  /-- PRESSURE_OK_CHANGE: the new level of the PRESSURE OK input (R141). -/
  | pressureOkChange (ok : Bool)
  /-- SETTLE_EXPIRY (R141). -/
  | settleExpiry
  /-- CONVERSION_COMPLETE: the raw result of the conversion in flight (R137). -/
  | conversionComplete (raw : Raw)
  /-- HOLD_EXPIRY of a zone (R146). -/
  | holdExpiry (z : Zone)
  /-- BELOW_TIMER_EXPIRY of a zone (R151). -/
  | belowTimerExpiry (z : Zone)
  /-- ESTOP_ASSERT (R184). -/
  | estopAssert
  /-- ESTOP_RELEASE (R185). -/
  | estopRelease
  /-- BYTE_RECEIVED: a byte, and whether its stop bit was found high (R188, R189). -/
  | byteReceived (b : Byte) (stopHigh : Bool)
  /-- GAP_TIMER_EXPIRY (R189). -/
  | gapTimerExpiry
  /-- LAST_BYTE_SENT (R195). -/
  | lastByteSent
  /-- UNKNOWN_REQUEST: a request frame whose kind is not in the request list (R192). -/
  | unknownRequest (kind tag : Byte)
  /-- CONFIGURE (R172). -/
  | configure (tag : Byte) (sec : Section)
  /-- RUN (R177). -/
  | run (tag : Byte)
  /-- STOP (R178). -/
  | stop (tag : Byte)
  /-- SET_SPEED (R179). -/
  | setSpeed (tag : Byte) (speed : Nat)
  /-- RESUME (R185). -/
  | resume (tag : Byte)
  /-- READ_LINE (R187). -/
  | readLine (tag : Byte)
  /-- ADD_REJECT (R16). -/
  | addReject (tag : Byte) (start stop : Pos)
  /-- READ_MAP (R17). -/
  | readMap (tag : Byte)
  /-- SET_GRADE (R21). -/
  | setGrade (tag : Byte) (code : Nat) (g : Grade)
  /-- READ_GRADE (R22). -/
  | readGrade (tag : Byte) (code : Nat)
  /-- ADD_ORDER (R24). -/
  | addOrder (tag : Byte) (o : OrderSpec)
  /-- CHANGE_COUNT (R37). -/
  | changeCount (tag : Byte) (id ordered allowance : Nat)
  /-- CANCEL_ORDER (R38). -/
  | cancelOrder (tag : Byte) (id : Nat)
  /-- READ_ORDER (R39). -/
  | readOrder (tag : Byte) (id : Nat)
  /-- LIST_ORDERS (R40). -/
  | listOrders (tag : Byte)
  /-- READ_COMPLETED (R40). -/
  | readCompleted (tag : Byte)
  /-- HOLD_KNIFE (R59). -/
  | holdKnife (tag : Byte)
  /-- RELEASE_KNIFE (R60). -/
  | releaseKnife (tag : Byte)
  /-- READ_KNIFE (R61). -/
  | readKnife (tag : Byte)
  /-- CLEAR_STATION (R75): the station code as sent. -/
  | clearStation (tag : Byte) (station : Nat)
  /-- READ_SLITTER (R76). -/
  | readSlitter (tag : Byte)
  /-- READ_STACKER (R92). -/
  | readStacker (tag : Byte)
  /-- LOAD_ROLL (R104): stand and arm codes as sent, and the roll. -/
  | loadRoll (tag : Byte) (stand arm : Nat) (r : RollSpec)
  /-- MARK_READY (R105). -/
  | markReady (tag : Byte) (stand arm : Nat)
  /-- UNLOAD_ROLL (R106). -/
  | unloadRoll (tag : Byte) (stand arm : Nat)
  /-- THREAD (R107). -/
  | thread (tag : Byte) (stand arm : Nat)
  /-- CLEAR_STAND (R108): the running arm is optional. -/
  | clearStand (tag : Byte) (stand : Nat) (arm : Option Nat)
  /-- READ_STAND (R109). -/
  | readStand (tag : Byte) (stand : Nat)
  /-- SPLICE_NOW (R133). -/
  | spliceNow (tag : Byte) (stand : Nat)
  /-- CANCEL_SPLICE (R134). -/
  | cancelSplice (tag : Byte) (stand : Nat)
  /-- READ_SPLICE (R135). -/
  | readSplice (tag : Byte) (stand : Nat)
  /-- SET_SUPPLY (R140): 1 on, 0 off, as sent. -/
  | setSupply (tag : Byte) (on : Nat)
  /-- ENABLE_ZONE (R152). -/
  | enableZone (tag : Byte) (zone on : Nat)
  /-- READ_ZONES (R153). -/
  | readZones (tag : Byte)
  /-- CLEAR_GLUE (R167). -/
  | clearGlue (tag : Byte) (unit : Nat)
  /-- READ_GLUE (R168). -/
  | readGlue (tag : Byte)
  /-- SET_LEVEL (R203). -/
  | setLevel (tag : Byte) (source level : Nat)
  /-- SET_THRESHOLD (R204). -/
  | setThreshold (tag : Byte) (threshold : Nat)
  /-- READ_SUMMARY (R197). -/
  | readSummary (tag : Byte)
deriving DecidableEq, Repr

end Sys2Proof
end

