-- ==== Sys2Proof/Machine/State.lean ====
section
/-! DEFINITION. The state of the part as plain data, block by block, and its value at reset. -/

namespace Sys2Proof.Machine

/-! ### Reject Map (section 1.3) -/

/-- The fault a span's board carries, in the order of section 1.3.1. -/
inductive SpanKind | splice | mismatch | heat | glue | misslit | stop | webBreak | marked
deriving DecidableEq, Repr

/-- The reporter of a span: one of 26 (section 1.3.1). -/
inductive Source | stand (n : Stand) | zone (z : Zone) | glue (u : GlueUnit) | slitter | estop | link
deriving DecidableEq, Repr

/-- A span record (section 1.3.1). `stop` is absent while the span is open. -/
structure Span where
  kind : SpanKind
  source : Source
  start : Pos
  stop : Option Pos
  coarse : Bool
  openFor : Option Source
  floor : Option Pos
  age : Nat
deriving DecidableEq, Repr

/-- The Reject Map: spans in map order and the age the next span takes (R4). -/
structure RejectMap where
  spans : List Span
  nextAge : Nat
deriving DecidableEq, Repr

/-! ### Order Book (chapter 2) -/

/-- Order states (section 2.2). -/
inductive OrderState | placed | frozen | cutting | tailing | done | cancelled
deriving DecidableEq, Repr

/-- An order of the book or of the completed list (section 2.2). `linked` tells a linked order from a head order (R25);
the outcome is FULL for `some 0` and SHORT with the deficit otherwise, present when DONE (R35). -/
structure Order where
  spec : OrderSpec
  state : OrderState
  start : Pos
  stop : Pos
  frozen : Bool
  linked : Bool
  gridPassed : Nat
  sheetsCut : Nat
  rejected : Nat
  surplus : Nat
  skipped : Nat
  good : Nat
  overflow : Nat
  stacksDone : Nat
  outcome : Option Nat
deriving DecidableEq, Repr

/-- The Order Book (chapter 2). `orders` is in book order. -/
structure OrderBook where
  grades : Vector (Option Grade) 64
  naming : Vector Nat 64
  orders : List Order
  completed : List Order
  lastDoneEnd : Option Pos
  notApplied : Bool
deriving DecidableEq, Repr

/-! ### Cutoff Unit (chapter 3) -/

/-- The grid record of the order at the knife (section 3.2). -/
structure Grid where
  id : Nat
  start : Pos
  product : Nat
  q0 : Nat
  r0 : Nat
  r : Nat
  j : Nat
  g : Nat
deriving DecidableEq, Repr

/-- The segment at the knife (section 3.2). -/
inductive Segment | none | waste | order (g : Grid)
deriving DecidableEq, Repr

/-- One entry of a cover list or of the open sheet (R55). -/
structure Cover where
  id : Nat
  first : Nat
  last : Nat
  final : Bool
deriving DecidableEq, Repr

/-- Why a cut was skipped (section 3.2). -/
inductive SkipCause | held | cycling | estopped | tooClose
deriving DecidableEq, Repr

/-- The classes of a sheet (R53, R55). -/
inductive SheetClass | good | reject | surplus | waste
deriving DecidableEq, Repr

/-- A sheet record (R55). -/
structure Sheet where
  start : Pos
  stop : Pos
  cls : SheetClass
  covers : List Cover
  wasteBoard : Bool
deriving DecidableEq, Repr

/-- The Cutoff Unit (section 3.2). The next cut is the `cut` registration. `kMin` and `wasteLen` are the K_MIN and WASTE_LEN that apply
at the knife, those of the last waste cut computed (R45, log 49); `limitCpm` and `limitWaste` are the CPM and the WASTE_LEN with which
the KNIFE limit was last recomputed (R58, log 18). -/
structure Cutoff where
  ready : Bool
  cycle : Option Nat
  segment : Segment
  lastPassed : Option Pos
  lastCut : Pos
  openSheet : List Cover
  openWaste : Bool
  made : BitVec 32
  skipped : BitVec 32
  lastSkip : Option SkipCause
  kMin : Nat
  wasteLen : Nat
  limitCpm : Nat
  limitWaste : Nat
deriving DecidableEq, Repr

/-! ### Slitter Pair (chapter 4) -/

/-- Station states (R63). -/
inductive StationState | idle | setting | ready | engaged | fault
deriving DecidableEq, Repr

/-- A set record (section 4.2). -/
structure SetRec where
  id : Nat
  slits : List Nat
  scores : List Nat
deriving DecidableEq, Repr

/-- What a head target output carries (R64): nothing sent since power-on, the park target, or a position. -/
inductive HeadTarget | unsent | park | at (position : Nat)
deriving DecidableEq, Repr

/-- A slitter station (R63): the set timer holds its length in seconds while it runs. -/
structure StationRec where
  state : StationState
  set : Option SetRec
  timer : Option Nat
  slitHeads : Vector HeadTarget 8
  scoreHeads : Vector HeadTarget 12
deriving DecidableEq, Repr

/-- A deferred swap (R73): the deferred start and the deferred order's set. -/
structure Deferred where
  start : Pos
  set : SetRec
deriving DecidableEq, Repr

/-- The Slitter Pair (sections 4.2, 4.3). `next` is N with the start its registrations were made for. -/
structure Slitter where
  stationA : StationRec
  stationB : StationRec
  running : Option Nat
  next : Option (Nat × Pos)
  inWindow : Bool
  awaited : Option SetRec
  incoming : Option Station
  deferred : Option Deferred
deriving DecidableEq, Repr

/-! ### Stacker (chapter 5) -/

/-- Stacker states (section 5.4). -/
inductive StackerState | building | transferring | blocked
deriving DecidableEq, Repr

/-- The gate mark of a record in the train: ahead, or passed and allotted to the stack record named (R80). -/
inductive GateMark | ahead | passed (id number : Nat)
deriving DecidableEq, Repr

/-- A record of the sheet train (R80). -/
structure TrainRec where
  sheet : Sheet
  mark : GateMark
deriving DecidableEq, Repr

/-- A stack record (section 5.4). `short` is the partial flag found when the record closed (R85). -/
structure StackRec where
  id : Nat
  number : Nat
  allotted : Nat
  landed : Nat
  lastFlag : Bool
  closed : Bool
  short : Bool
deriving DecidableEq, Repr

/-- An out-conveyor entry (section 5.4). -/
structure OutEntry where
  id : Nat
  number : Nat
  count : Nat
  short : Bool
deriving DecidableEq, Repr

/-- The Stacker (sections 5.2 to 5.4). `divert` is the gate output: true is divert. -/
structure Stacker where
  train : List TrainRec
  divert : Bool
  mode : StackerState
  table : Option StackRec
  fingers : Option StackRec
  out : List OutEntry
  lastStarted : Option (Nat × Nat)
  finalList : List Nat
  transfer : Bool
deriving DecidableEq, Repr

/-! ### Reel Stands (chapter 6) -/

/-- Roll states (section 6.2). -/
inductive RollState | loaded | ready | running | expired
deriving DecidableEq, Repr

/-- A roll record (section 6.2). `reserveSeen` and `minRunSeen` record that a decrement at or below the threshold has been
marked since the roll became RUNNING (R110). -/
structure Roll where
  spec : RollSpec
  state : RollState
  remaining : Nat
  acc : Nat
  reserveSeen : Bool
  minRunSeen : Bool
deriving DecidableEq, Repr

/-- Stand fault causes (R95). -/
inductive FaultCause | webLost | runOut | cutFail | pasteLimit | spliceEstop
deriving DecidableEq, Repr

/-- Expiry states (R95). -/
inductive Expiry | notDue | due | raised
deriving DecidableEq, Repr

/-- A stand (R95). `fault` is absent while OPERATING. -/
structure StandRec where
  armA : Option Roll
  armB : Option Roll
  fault : Option FaultCause
  expiry : Expiry
  breakFlag : Bool
deriving DecidableEq, Repr

/-! ### Splice Sequencer (chapter 7) -/

/-- How a splice was asked for (section 7.2). -/
inductive SpliceKind | planned | expiry | now
deriving DecidableEq, Repr

/-- The stages of a splice (section 7.2). -/
inductive Stage | armed | paste | cut | transfer
deriving DecidableEq, Repr

/-- The outcomes of a sequence (R124). -/
inductive SpliceOutcome | complete | aborted | noReadyRoll | pasteFail | cutFail | webBreak | estop
deriving DecidableEq, Repr

/-- A plan: boundary, required kind, order id, owed-from (section 7.2). -/
structure Plan where
  b : Pos
  kind : Nat
  id : Nat
  owedFrom : Option Pos
deriving DecidableEq, Repr

/-- A sequence record (section 7.2). The stage timer holds its length in ms while it runs. `route` keeps the approach start and
trigger positions registered at the arming of a PLANNED sequence (R116), which READ_SPLICE gives (R135). -/
structure Seq where
  kind : SpliceKind
  plan : Option Plan
  required : Nat
  widthOrder : Option Nat
  point : Option Pos
  stage : Stage
  triggered : Bool
  approach : Bool
  cancelReq : Bool
  timer : Option Nat
  standby : Arm
  joint : Option Pos
  route : Option (Pos × Pos)
deriving DecidableEq, Repr

/-- The roll wait of a stand (R113). -/
inductive RollWait | none | expiry | plan (p : Plan)
deriving DecidableEq, Repr

/-- The data of a SPLICE_END (R124). `mismatch` is the MISMATCH span laid at this end: its start as clamped, and its end, or its reach
at the opening where the end opened it (log 22). -/
structure SpliceEnd where
  stand : Stand
  kind : SpliceKind
  outcome : SpliceOutcome
  lateCancel : Bool
  joint : Option Pos
  b : Option Pos
  mismatch : Option (Pos × Pos)
  standby : Arm
  rollId : Nat
  failures : Nat
deriving DecidableEq, Repr

/-- The splice state of a stand (R113), with its paste and cut command outputs. -/
structure SpliceRec where
  seq : Option Seq
  pendingPlan : Option Plan
  wait : RollWait
  expiryHeld : Bool
  mismatchOpen : Bool
  failures : Nat
  last : Option SpliceEnd
  pasteCmd : Option Arm
  cutCmd : Bool
deriving DecidableEq, Repr

/-! ### Scanner and Heat Control (chapter 8) -/

/-- A channel record (R138). -/
structure Reading where
  raw : Raw
  value : Int
  bad : Bool
deriving DecidableEq, Repr

/-- The Measurement Scanner (section 8.2). The conversion in flight holds its length in microseconds. -/
structure Scanner where
  pointer : Channel
  conversion : Option Nat
  channels : Vector (Option Reading) 16
deriving DecidableEq, Repr

/-- Supply header states (section 8.3). -/
inductive Header | off | settling | ready | lost
deriving DecidableEq, Repr

/-- Zone states (section 8.4). -/
inductive ZoneState | off | waitingSupply | below | inWindow | above | probeFault | noReading
deriving DecidableEq, Repr

/-- The hold of a zone (section 8.4): HOLDING has its value and the length of its timer in seconds. -/
inductive Hold | none | holding (value : Nat) (secs : Nat) | ffOnly
deriving DecidableEq, Repr

/-- The below timer of a zone (R151): running holds its length in seconds. -/
inductive BelowTimer | stopped | running (secs : Nat) | expired
deriving DecidableEq, Repr

/-- A zone record (section 8.4). -/
structure ZoneRec where
  enabled : Bool
  state : ZoneState
  active : Option ZoneRecipe
  pending : List (Pos × ZoneRecipe)
  integral : Int
  output : Nat
  hold : Hold
  below : BelowTimer
  window : Bool
deriving DecidableEq, Repr

/-- Heat Control (sections 8.3, 8.4, 8.7). The settle timer holds its length in seconds while it runs. -/
structure Heat where
  pressureOk : Bool
  header : Header
  settle : Option Nat
  zones : Vector ZoneRec 12
  slow : Bool
deriving DecidableEq, Repr

/-! ### Glue Units (chapter 9) -/

/-- Glue unit states (R157). -/
inductive GlueState | parked | moving | applying | lifted | fault
deriving DecidableEq, Repr

/-- What a gap target output carries (R157): the park target, or a gap. -/
inductive GapOutput | park | gap (g : Nat)
deriving DecidableEq, Repr

/-- A glue unit (section 9.2). `applied` is the roll: true is APPLIED. The move timer holds its length in seconds. -/
structure GlueRec where
  state : GlueState
  applied : Bool
  active : Option GlueRecipe
  pending : List (Pos × GlueRecipe)
  target : Option Nat
  commanded : Option Nat
  confirmed : Bool
  timer : Option Nat
  window : Bool
deriving DecidableEq, Repr

/-- The Glue Units (section 9.2). -/
structure Glue where
  motion : Bool
  units : Vector GlueRec 4
deriving DecidableEq, Repr

/-! ### Speed Governor (chapter 10) -/

/-- Line modes (section 10.1). -/
inductive Mode | unconfigured | stopped | running | stopping | halted | estopped
deriving DecidableEq, Repr

/-- Causes of a halt report (R171). -/
inductive HaltCause | webLost | runOut | cutFail
deriving DecidableEq, Repr

/-- The limiting source (R171, R180). -/
inductive LimitSource
  | requested | order | knife | splice (n : Stand) | reserve | heat | slitter | stacker | stop | fast | none
deriving DecidableEq, Repr

/-- The limit table (R171, section 10.4): an absent speed is inactive. -/
structure Limits where
  requested : Nat
  order : Option Nat
  knife : Option Nat
  splice : Vector (Option Nat) 7
  reserve : Option Nat
  heat : Option Nat
  slitter : Option Nat
  stacker : Option Nat
deriving DecidableEq, Repr

/-- The sections in force (R172): a section is accepted exactly when it is present. -/
structure Sections where
  geometry : Option Geometry
  stands : Option (Vector StandCfg 7)
  dryend : Option DryEnd
  zones : Option ZonesCfg
  governor : Option GovCfg
deriving DecidableEq, Repr

/-- The Speed Governor (R171). -/
structure Governor where
  mode : Mode
  fast : Bool
  haltOwed : Bool
  haltRecord : Option (Stand × HaltCause)
  estopLine : Bool
  reference : Nat
  target : Nat
  source : LimitSource
  runOut : Bool
  modeEntries : Nat
deriving DecidableEq, Repr

/-! ### Position Tracker (chapter 1) -/

/-- The Position Tracker (section 1.1). -/
structure Tracker where
  pos : Pos
  backtrack : Nat
  measured : Nat
  window : Nat
deriving DecidableEq, Repr

/-- The purposes of registration (R2). -/
inductive Purpose
  | freeze | cut | slitWindow | slitTrigger | gate | stackPoint
  | approach (n : Stand) | spliceTrigger (n : Stand) | zone (z : Zone) | glue (u : GlueUnit)
deriving DecidableEq, Repr

/-- The registrations, one for each purpose (R2). -/
structure Regs where
  freeze : Option Pos
  cut : Option Pos
  slitWindow : Option Pos
  slitTrigger : Option Pos
  gate : Option Pos
  stackPoint : Option Pos
  approach : Vector (Option Pos) 7
  spliceTrigger : Vector (Option Pos) 7
  zone : Vector (Option Pos) 12
  glue : Vector (Option Pos) 4
deriving DecidableEq, Repr

/-! ### Line Link and Notice Unit (chapters 11, 12) -/

/-- The serial rate read from the straps at power-on (R188). -/
inductive Rate | r115200 | r460800 | r1000000 | r2000000
deriving DecidableEq, Repr

/-- Receiver states (R189). -/
inductive RxState | hunting | header | payload | check
deriving DecidableEq, Repr

/-- A frame without its lead, length and check bytes, which follow from these (section 11.2). -/
structure Frame where
  kind : Byte
  tag : Byte
  payload : List Byte
deriving DecidableEq, Repr

/-- The transmitter (R195) with the frame it is sending. -/
inductive Tx | idle | reply (f : Frame) | notice (f : Frame)
deriving DecidableEq, Repr

/-- The Line Link (R198). -/
structure Link where
  rate : Rate
  rxState : RxState
  rxBytes : List Byte
  queue : List Frame
  inHand : Option (Byte × Byte)
  tx : Tx
  waiting : List Frame
  seq : Byte
deriving DecidableEq, Repr

/-- Causes of a LINK event (R190). -/
inductive LinkCause | framing | length | gap | check | overrun
deriving DecidableEq, Repr

/-- A span as a notice or reply shows it: with its end, or its reach while open (R12, R16). -/
structure SpanView where
  span : Span
  reach : Pos
deriving DecidableEq, Repr

/-- The data an event source keeps (R199, R205). -/
inductive EventData
  | estop (pos : Pos) (before : Mode) (span : Option SpanView)
  | spliceEnd (d : SpliceEnd)
  | stackOut (e : OutEntry) (entries : Nat)
  | orderDone (o : Order)
  | orderProgress (id stacksDone good : Nat)
  | boundaryFrozen (frozen : Option Nat) (b : Pos) (next : Option Nat)
  | map (v : SpanView) (kind : SpanKind) (source : Source)
  | link (cause : LinkCause) (kind tag : Option Byte)
deriving DecidableEq, Repr

/-- Notice sources 0..21 (section 12.1). -/
abbrev NoticeSource := Fin 22

/-- The Notice Unit (R199). The level of source 0 (ESTOP) is not used. -/
structure Notices where
  threshold : Nat
  levels : Vector Nat 22
  waiting : Vector Bool 22
  counts : Vector Nat 22
  data : Vector (Option EventData) 22
deriving DecidableEq, Repr

/-! ### Events between blocks (the model's own) -/

/-- An event one block sends another, taken later in the same step (log 2). -/
inductive Ev
  /-- A registered position is reached (R2). -/
  | crossing (p : Purpose) (at_ : Pos)
  /-- The RUNNING roll of a stand is due a decrement (R98). -/
  | decrement (n : Stand)
  /-- E has risen while the board-in-motion flag was no (R163). -/
  | motionSet
  /-- The Reject Map reports a map change (R15). -/
  | mapChange
  /-- The Order Book reports an order change (R42). -/
  | orderChange
  /-- The Order Book reports a head order's start to the Cutoff Unit (R32, R51). -/
  | headStart
  /-- The Order Book reports a freeze to the Cutoff Unit (R29, R58). -/
  | endFrozen
  /-- A boundary handed over to the Splice Sequencer (R30). -/
  | handover (n : Stand) (b : Pos) (kind id : Nat)
  /-- A grade's recipes sent to the zones and glue units (R31). -/
  | recipes (b : Pos) (g : Grade)
  /-- Cutoff Unit reports (R54). -/
  | startReport (id : Nat)
  | positionReport (id : Nat) (isEnd : Bool)
  | sheetReport (id m : Nat) (cls : SheetClass) (long : Bool)
  /-- A sheet record handed to the Stacker (R55). -/
  | sheet (r : Sheet)
  /-- Stacker reports (R34, R35). -/
  | goodReport (id : Nat)
  | overflowReport (id : Nat)
  | stackReport (id : Nat)
  | endReport (id : Nat)
  /-- The book is left empty (R35). -/
  | runOut
  /-- An order was accepted (R24, R176). -/
  | accepted
  /-- The line mode changed (R176). -/
  | modeEntry (before after : Mode)
  /-- A halt report (R183). -/
  | halt (n : Stand) (cause : HaltCause)
  /-- Reports of the Reel Stands to the Splice Sequencer (R102, R108, R100, R105, R119). -/
  | webLoss (n : Stand)
  | cleared (n : Stand)
  | expiry (n : Stand)
  | rollReady (n : Stand)
  | minRun (n : Stand)
  /-- A stand takes up owed work, with or without step 2 of R114 (R114, R134). -/
  | owedWork (n : Stand) (withWait : Bool)
  /-- The three blocks' own events of a Governor period expiry (R3, R181, R159). -/
  | publish
  | govStep
  | glueTargets
  /-- An accepted GOVERNOR section, handed to the Splice Sequencer and the Glue Units (R174). -/
  | governorAccepted
  /-- A request in hand is handed to its owner (R192). -/
  | request (f : Frame)
deriving DecidableEq, Repr

/-! ### The whole part -/

/-- The state of the part. `pending` is the queue of waiting commands, `inbox` the events between blocks not yet taken inside
the present step (empty between steps) and `choice` the counter of free values; the rest is the spec's. -/
structure State where
  pending : List Instr
  inbox : List Ev
  choice : Nat
  tracker : Tracker
  regs : Regs
  map : RejectMap
  book : OrderBook
  cutoff : Cutoff
  slitter : Slitter
  stacker : Stacker
  stands : Vector StandRec 7
  splice : Vector SpliceRec 7
  scanner : Scanner
  heat : Heat
  glue : Glue
  gov : Governor
  cfg : Sections
  limits : Limits
  link : Link
  notices : Notices
deriving DecidableEq, Repr

/-- Faults: the part has no fault that stops it (INVENTORY.md, Faults), and no meaning raises one. -/
inductive Fault
  /-- Raised by nothing: every command of the table completes. It stands so that the type is inhabited. Safe. -/
  | none
deriving DecidableEq, Repr

/-- Refusals. -/
inductive Refusal
  /-- A command whose arm of `exec` has no meaning yet: raised by that arm alone. Safe. -/
  | notModelled (mnemonic : String)
deriving DecidableEq, Repr

/-- What exec and step answer. -/
abbrev Out := Host.Outcome State Fault Refusal

/-! ### Reset -/

/-- R1, R3: E, the backtrack count, the measured speed and the window at reset. -/
def Tracker.reset : Tracker := { pos := 0, backtrack := 0, measured := 0, window := 0 }

/-- R2: no registration at reset. -/
def Regs.reset : Regs :=
  { freeze := none, cut := none, slitWindow := none, slitTrigger := none, gate := none, stackPoint := none,
    approach := tfill 7 none, spliceTrigger := tfill 7 none, zone := tfill 12 none, glue := tfill 4 none }

/-- R44: the Order Book at reset. -/
def OrderBook.reset : OrderBook :=
  { grades := tfill 64 none, naming := tfill 64 0, orders := [], completed := [], lastDoneEnd := none,
    notApplied := false }

/-- R62: the Cutoff Unit at reset. -/
def Cutoff.reset : Cutoff :=
  { ready := false, cycle := none, segment := .none, lastPassed := none, lastCut := 0, openSheet := [],
    openWaste := false, made := 0, skipped := 0, lastSkip := none, kMin := 0, wasteLen := 0, limitCpm := 0,
    limitWaste := 0 }

/-- R63: a station at reset; the head targets are given, since RESET_PART leaves the heads where they stand. -/
def StationRec.resetWith (slit : Vector HeadTarget 8) (score : Vector HeadTarget 12) : StationRec :=
  { state := .idle, set := none, timer := none, slitHeads := slit, scoreHeads := score }

/-- R77: the Slitter Pair at power-on. -/
def Slitter.reset : Slitter :=
  { stationA := StationRec.resetWith (tfill 8 .unsent) (tfill 12 .unsent),
    stationB := StationRec.resetWith (tfill 8 .unsent) (tfill 12 .unsent),
    running := none, next := none, inWindow := false, awaited := none, incoming := none, deferred := none }

/-- R94: the Stacker at reset. -/
def Stacker.reset : Stacker :=
  { train := [], divert := true, mode := .building, table := none, fingers := none, out := [],
    lastStarted := none, finalList := [], transfer := false }

/-- R111: a stand at reset. -/
def StandRec.reset : StandRec :=
  { armA := none, armB := none, fault := none, expiry := .notDue, breakFlag := false }

/-- R113: the splice state of a stand at reset. -/
def SpliceRec.reset : SpliceRec :=
  { seq := none, pendingPlan := none, wait := .none, expiryHeld := false, mismatchOpen := false, failures := 0,
    last := none, pasteCmd := none, cutCmd := false }

/-- R139: the scanner at reset. -/
def Scanner.reset : Scanner := { pointer := 0, conversion := none, channels := tfill 16 none }

/-- R155: a zone at reset. -/
def ZoneRec.reset : ZoneRec :=
  { enabled := false, state := .off, active := none, pending := [], integral := 0, output := 0, hold := .none,
    below := .stopped, window := true }

/-- R155: Heat Control at reset, with the level of the PRESSURE OK input. -/
def Heat.resetWith (pressure : Bool) : Heat :=
  { pressureOk := pressure, header := .off, settle := none, zones := tfill 12 ZoneRec.reset, slow := false }

/-- R157: a glue unit at reset. -/
def GlueRec.reset : GlueRec :=
  { state := .parked, applied := false, active := none, pending := [], target := none, commanded := none,
    confirmed := false, timer := none, window := true }

/-- R157: the Glue Units at reset. -/
def Glue.reset : Glue := { motion := false, units := tfill 4 GlueRec.reset }

/-- R171: the Governor at reset, with the level of the ESTOP input. -/
def Governor.resetWith (estop : Bool) : Governor :=
  { mode := .unconfigured, fast := false, haltOwed := false, haltRecord := none, estopLine := estop, reference := 0,
    target := 0, source := .none, runOut := false, modeEntries := 0 }

/-- R171, R186: no section accepted at reset. -/
def Sections.reset : Sections := { geometry := none, stands := none, dryend := none, zones := none, governor := none }

/-- R171: the limit table at reset: REQUESTED 0, all others inactive. -/
def Limits.reset : Limits :=
  { requested := 0, order := none, knife := none, splice := tfill 7 none, reserve := none, heat := none,
    slitter := none, stacker := none }

/-- R198: the Line Link at power-on, with the rate the straps give. -/
def Link.resetWith (rate : Rate) : Link :=
  { rate := rate, rxState := .hunting, rxBytes := [], queue := [], inHand := none, tx := .idle, waiting := [],
    seq := 0 }

/-- The default levels of section 12.1, source 0 first; ESTOP has no level and its entry is 0. -/
def defaultLevels : Vector Nat 22 :=
  #v[0, 1, 3, 3, 3, 3, 3, 3, 3, 2, 2, 3, 3, 3, 2, 5, 4, 5, 5, 2, 6, 6]

/-- R206: the Notice Unit at reset; LINE_MODE (source 1) is then pending. -/
def Notices.reset : Notices :=
  { threshold := 7, levels := defaultLevels, waiting := tset (tfill 22 false) 1 true, counts := tfill 22 0,
    data := tfill 22 none }

/-- The machine right after power-on: every block at the value the spec states. The straps are taken low, the ESTOP line
released and PRESSURE OK false (DESIGN CHOICE, log 8); the command queue is empty. -/
def State.reset : State :=
  { pending := [], inbox := [], choice := 0, tracker := Tracker.reset, regs := Regs.reset,
    map := { spans := [], nextAge := 0 }, book := OrderBook.reset, cutoff := Cutoff.reset,
    slitter := Slitter.reset, stacker := Stacker.reset, stands := tfill 7 StandRec.reset,
    splice := tfill 7 SpliceRec.reset, scanner := Scanner.reset, heat := Heat.resetWith false, glue := Glue.reset,
    gov := Governor.resetWith false, cfg := Sections.reset, limits := Limits.reset,
    link := Link.resetWith .r115200, notices := Notices.reset }

end Sys2Proof.Machine
end

