-- ==== Sys2Proof/Machine/Ops.lean ====
section
/-! DEFINITION. The named operations every block uses: comparing positions, reading the configuration in force, posting
events, registering positions with the Position Tracker, raising and marking notice sources, and the free order of events
that fall together. -/

namespace Sys2Proof.Machine

/-! ### Positions (section 0.7) -/

/-- R2: a position is reached when `(E − P) mod 2^32` is less than 2^31. -/
def isReached (e p : Pos) : Bool := decide ((e - p).toNat < 2147483648)

/-- How far `p` lies ahead of E in the sense of R2: a position reached lies 0 to 2^31 - 1 counts behind, every other one ahead,
the one exactly 2^31 counts away among them (DEDUCED, log 38). -/
def lead (e p : Pos) : Int := -(p.ahead e)

/-- `a` lies below `b`, both seen from E (section 0.7, log 38). -/
def isBelow (e a b : Pos) : Bool := decide (lead e a < lead e b)

/-- R4: a start lies below another, by their signed distances from E. -/
def startBelow (e a b : Pos) : Bool := decide (e.ahead a < e.ahead b)

/-- The higher of two positions by distance from E. -/
def posMax (e a b : Pos) : Pos := if isBelow e a b then b else a

/-- The lower of two positions by distance from E. -/
def posMin (e a b : Pos) : Pos := if isBelow e b a then b else a

/-- `p` lies beyond `c`: their difference, read as signed, is positive (R49, R50). -/
def isBeyond (c p : Pos) : Bool := decide (0 < c.ahead p)

/-! ### Instances -/

/-- The seven stands in ascending number: the order in which they take an event they share (DESIGN CHOICE, log 47). -/
def allStands : List Stand := [0, 1, 2, 3, 4, 5, 6]

/-- The twelve zones in ascending number: the order in which they take an event they share (DESIGN CHOICE, log 47). -/
def allZones : List Zone := [0, 1, 2, 3, 4, 5, 6, 7, 8, 9, 10, 11]

/-- The four glue units in ascending number: the order in which they take an event they share (DESIGN CHOICE, log 47). -/
def allUnits : List GlueUnit := [0, 1, 2, 3]

/-- The other arm. -/
def Arm.other : Arm → Arm
  | .a => .b
  | .b => .a

/-- The other station. -/
def Station.other : Station → Station
  | .a => .b
  | .b => .a

/-! ### The configuration in force (section 0.10); a field of a section not accepted reads as 0 (log 36) -/

/-- CPM in force (R3). -/
def State.cpm (s : State) : Nat := match s.cfg.geometry with | some g => g.cpm | none => 0
/-- D_FREEZE in force (section 2.3). -/
def State.dFreeze (s : State) : Nat := match s.cfg.geometry with | some g => g.dFreeze | none => 0
/-- D_SLIT in force (section 4.1). -/
def State.dSlit (s : State) : Nat := match s.cfg.geometry with | some g => g.dSlit | none => 0
/-- W_SLIT in force (section 4.1). -/
def State.wSlit (s : State) : Nat := match s.cfg.geometry with | some g => g.wSlit | none => 0
/-- D_GATE in force (section 5.1). -/
def State.dGate (s : State) : Nat := match s.cfg.geometry with | some g => g.dGate | none => 0
/-- D_STACK in force (section 5.1). -/
def State.dStack (s : State) : Nat := match s.cfg.geometry with | some g => g.dStack | none => 0
/-- D_STAND of a stand in force (section 6.1). -/
def State.dStand (s : State) (n : Stand) : Nat := match s.cfg.geometry with | some g => tget g.dStand n | none => 0
/-- D_ZONE of a zone in force (section 8.1). -/
def State.dZone (s : State) (z : Zone) : Nat := match s.cfg.geometry with | some g => tget g.dZone z | none => 0
/-- D_GLUE of a glue unit in force (section 9.1). -/
def State.dGlue (s : State) (u : GlueUnit) : Nat := match s.cfg.geometry with | some g => tget g.dGlue u | none => 0

/-- R173: D_WET is the greatest of the seven D_STAND values of a GEOMETRY section. -/
def Geometry.dWet (g : Geometry) : Nat := (allStands.map (fun n => tget g.dStand n)).foldl max 0

/-- The STANDS fields of a stand, all 0 before the section is accepted. -/
def State.standCfg (s : State) (n : Stand) : StandCfg :=
  match s.cfg.stands with
  | some c => tget c n
  | none => { takeup := 0, reserve := 0, minRun := 0, tPaste := 0, tCut := 0, tTransfer := 0, spliceOffset := 0,
              wApproach := 0, guardBefore := 0, spliceLen := 0, guardAfter := 0 }

/-- The DRYEND fields, all 0 before the section is accepted. -/
def State.dry (s : State) : DryEnd :=
  match s.cfg.dryend with
  | some d => d
  | none => { kMin := 0, cMax := 0, wasteLen := 0, knifeCycle := 0, setTime := 0, fingerWarn := 0 }

/-- The ZONES fields, all 0 before the section is accepted. -/
def State.zonesCfg (s : State) : ZonesCfg :=
  match s.cfg.zones with
  | some z => z
  | none => { scanDiv := 0, channels := tfill 16 { lo := 0, hi := 0 }, gains := tfill 12 { kp := 0, ki := 0 },
              probeHold := 0, heatGrace := 0, heatSlow := 0, supplySettle := 0, gapMin := 0, gapMax := 0,
              gapDeadband := 0, gapTol := 0, gapMoveTime := 0 }

/-- The GOVERNOR fields, all 0 before the section is accepted. -/
def State.govCfg (s : State) : GovCfg :=
  match s.cfg.governor with
  | some g => g
  | none => { accelStep := 0, decelStep := 0, fastStep := 0, crawlSpeed := 0, spliceSpeed := 0, glueLift := 0 }

/-! ### Instances of the blocks -/

/-- Stand `n`. -/
def State.stand (s : State) (n : Stand) : StandRec := tget s.stands n
/-- Replace stand `n`. -/
def State.setStand (s : State) (n : Stand) (r : StandRec) : State := { s with stands := tset s.stands n r }
/-- The splice state of stand `n`. -/
def State.spl (s : State) (n : Stand) : SpliceRec := tget s.splice n
/-- Replace the splice state of stand `n`. -/
def State.setSpl (s : State) (n : Stand) (r : SpliceRec) : State := { s with splice := tset s.splice n r }
/-- Zone `z`. -/
def State.zone (s : State) (z : Zone) : ZoneRec := tget s.heat.zones z
/-- Replace zone `z`. -/
def State.setZone (s : State) (z : Zone) (r : ZoneRec) : State :=
  { s with heat := { s.heat with zones := tset s.heat.zones z r } }
/-- Glue unit `u`. -/
def State.unit (s : State) (u : GlueUnit) : GlueRec := tget s.glue.units u
/-- Replace glue unit `u`. -/
def State.setUnit (s : State) (u : GlueUnit) (r : GlueRec) : State :=
  { s with glue := { s.glue with units := tset s.glue.units u r } }

/-- Run an operation at each instance in turn. -/
def State.each {α : Type} (l : List α) (f : α → State → State) (s : State) : State := l.foldl (fun t x => f x t) s

/-! ### Events between blocks (log 2) -/

/-- Post an event behind those already waiting in this step. -/
def State.post (s : State) (e : Ev) : State := { s with inbox := s.inbox ++ [e] }

/-- Post an event ahead of those waiting: what a block does next within its own rule. -/
def State.postFirst (s : State) (e : Ev) : State := { s with inbox := e :: s.inbox }

/-- Post several events in order. -/
def State.postAll (s : State) (es : List Ev) : State := { s with inbox := s.inbox ++ es }

/-! ### Registrations (R2) -/

/-- The registration for a purpose. -/
def Regs.get (r : Regs) : Purpose → Option Pos
  | .freeze => r.freeze
  | .cut => r.cut
  | .slitWindow => r.slitWindow
  | .slitTrigger => r.slitTrigger
  | .gate => r.gate
  | .stackPoint => r.stackPoint
  | .approach n => tget r.approach n
  | .spliceTrigger n => tget r.spliceTrigger n
  | .zone z => tget r.zone z
  | .glue u => tget r.glue u

/-- Replace the registration for a purpose. -/
def Regs.put (r : Regs) (p : Purpose) (v : Option Pos) : Regs :=
  match p with
  | .freeze => { r with freeze := v }
  | .cut => { r with cut := v }
  | .slitWindow => { r with slitWindow := v }
  | .slitTrigger => { r with slitTrigger := v }
  | .gate => { r with gate := v }
  | .stackPoint => { r with stackPoint := v }
  | .approach n => { r with approach := tset r.approach n v }
  | .spliceTrigger n => { r with spliceTrigger := tset r.spliceTrigger n v }
  | .zone z => { r with zone := tset r.zone z v }
  | .glue u => { r with glue := tset r.glue u v }

/-- Every purpose a block can register for (the table of R2). -/
def allPurposes : List Purpose :=
  [.freeze, .cut, .slitWindow, .slitTrigger, .gate, .stackPoint] ++ allStands.map .approach ++
    allStands.map .spliceTrigger ++ allZones.map .zone ++ allUnits.map .glue

/-- An event is not a crossing for this purpose. -/
def Ev.notFor (p : Purpose) : Ev → Bool
  | .crossing q _ => !decide (q = p)
  | _ => true

/-- R2: a block withdraws a registration; a crossing on its way for the same purpose is withdrawn with it (R28). -/
def State.withdraw (s : State) (p : Purpose) : State :=
  { s with regs := s.regs.put p none, inbox := s.inbox.filter (Ev.notFor p) }

/-- A block's event whose reports are taken before all that waits; `p` is the purpose for which the block registers anew. -/
def State.reportAhead (s : State) (p : Purpose) (f : State → State) : State :=
  let t := f { s with inbox := [] }
  { t with inbox := t.inbox ++ s.inbox.filter (Ev.notFor p) }

/-- R2: a block registers a position, replacing its earlier registration for the purpose; a position already reached is
handed over at once. -/
def State.register (s : State) (p : Purpose) (at_ : Pos) : State :=
  if isReached s.tracker.pos at_ then (s.withdraw p).post (.crossing p at_)
  else { s.withdraw p with regs := (s.withdraw p).regs.put p (some at_) }

/-- The registrations E has reached, as crossings. -/
def State.reachedCrossings (s : State) : List Ev :=
  allPurposes.filterMap (fun p =>
    match s.regs.get p with
    | some q => if isReached s.tracker.pos q then some (.crossing p q) else none
    | none => none)

/-- The registrations with those E has reached removed (R2). -/
def State.unreachedRegs (s : State) : Regs :=
  allPurposes.foldl (fun r p =>
    match s.regs.get p with
    | some q => if isReached s.tracker.pos q then r.put p none else r
    | none => r) s.regs

/-! ### Free order of events that fall together (log 3, 4) -/

/-- A list in an order the part picks: each choice takes the event of index `Config.pick k` among those left. -/
def pickOrder {α : Type} : Nat → Nat → List α → List α
  | 0, _, l => l
  | _ + 1, _, [] => []
  | _ + 1, _, [x] => [x]
  | fuel + 1, k, x :: y :: l =>
    let rest := x :: y :: l
    let i := Config.pick k % rest.length
    match rest[i]? with
    | some e => e :: pickOrder fuel (k + 1) (rest.eraseIdx i)
    | none => rest

/-- Post events that fall together in a free order; one event or none takes no choice. -/
def State.postTogether (s : State) (es : List Ev) : State :=
  match es with
  | [] => s
  | [e] => s.post e
  | _ => { s.postAll (pickOrder es.length s.choice es) with choice := s.choice + es.length }

/-- A free time left on a timer of the given length (log 6). -/
def State.timeLeft (s : State) (k length : Nat) : Nat := Config.timeLeft (s.choice + k) % (length + 1)

/-- R3: the measured speed of a window: count × 6,000 / CPM, truncated and clamped; 0 before GEOMETRY. -/
def State.windowSpeed (s : State) : Nat :=
  match s.cfg.geometry with
  | some g => min Config.topSpeed (s.tracker.window * 6000 / g.cpm)
  | none => 0

/-! ### Notice sources (section 12.1) -/

/-- Source 0. -/
def srcEstop : NoticeSource := 0
/-- Source 1. -/
def srcLineMode : NoticeSource := 1
/-- Sources 2..8. -/
def srcSpliceEnd (n : Stand) : NoticeSource := ⟨2 + n.val, by omega⟩
/-- Source 9. -/
def srcStands : NoticeSource := 9
/-- Source 10. -/
def srcSupply : NoticeSource := 10
/-- Source 11. -/
def srcZones : NoticeSource := 11
/-- Source 12. -/
def srcGlue : NoticeSource := 12
/-- Source 13. -/
def srcSlitter : NoticeSource := 13
/-- Source 14. -/
def srcStacker : NoticeSource := 14
/-- Source 15. -/
def srcStackOut : NoticeSource := 15
/-- Source 16. -/
def srcOrderDone : NoticeSource := 16
/-- Source 17. -/
def srcOrderProgress : NoticeSource := 17
/-- Source 18. -/
def srcBoundaryFrozen : NoticeSource := 18
/-- Source 19. -/
def srcMap : NoticeSource := 19
/-- Source 20. -/
def srcLink : NoticeSource := 20
/-- Source 21. -/
def srcLimit : NoticeSource := 21

/-- R200: an occurrence of an event source at the Notice Unit. ESTOP is never at level 7. -/
def Notices.occur (u : Notices) (i : NoticeSource) (d : EventData) : Notices :=
  if i ≠ srcEstop ∧ tget u.levels i = 7 then u
  else if tget u.waiting i then
    { u with counts := tset u.counts i (min 255 (tget u.counts i + 1)), data := tset u.data i (some d) }
  else
    { u with waiting := tset u.waiting i true, counts := tset u.counts i 1, data := tset u.data i (some d) }

/-- R201: a condition source is marked changed. -/
def Notices.markChanged (u : Notices) (i : NoticeSource) : Notices :=
  if tget u.levels i = 7 then u else { u with waiting := tset u.waiting i true }

/-- A block raises an event of its source (R200). -/
def State.raise (s : State) (i : NoticeSource) (d : EventData) : State := { s with notices := s.notices.occur i d }

/-- A block marks its condition changed (R201). -/
def State.mark (s : State) (i : NoticeSource) : State := { s with notices := s.notices.markChanged i }

/-- Mark a condition when a change is found. -/
def State.markIf (s : State) (changed : Bool) (i : NoticeSource) : State := if changed then s.mark i else s

end Sys2Proof.Machine
end

