-- ==== Sys2Proof/Machine/Operands.lean ====
section
/-! DEFINITION. The operand forms of the link: field encodings (R193), the check, frames (section 11.2) and the layout of a
reply with the cutting of its lists (R194). -/

namespace Sys2Proof.Machine

/-! ### Field encodings (R193) -/

/-- A number in 1 byte. -/
def u8 (n : Nat) : List Byte := [BitVec.ofNat 8 n]
/-- A number in 2 bytes, low byte first. -/
def u16 (n : Nat) : List Byte := [BitVec.ofNat 8 n, BitVec.ofNat 8 (n / 256)]
/-- A number in 4 bytes, low byte first. -/
def u32 (n : Nat) : List Byte :=
  [BitVec.ofNat 8 n, BitVec.ofNat 8 (n / 256), BitVec.ofNat 8 (n / 65536), BitVec.ofNat 8 (n / 16777216)]
/-- A signed number in 2 bytes, two's complement, low byte first. -/
def i16 (n : Int) : List Byte := u16 (BitVec.ofInt 16 n).toNat
/-- A knife position in 4 bytes, low byte first. -/
def encPos (p : Pos) : List Byte := u32 p.toNat
/-- Yes or no, set or clear, on or off in 1 byte. -/
def encBool (b : Bool) : List Byte := u8 (if b then 1 else 0)
/-- An optional field: a presence byte, and the value when present. -/
def encOpt {α : Type} (f : α → List Byte) : Option α → List Byte
  | none => u8 0
  | some x => u8 1 ++ f x
/-- A list: a count byte, then the entries. -/
def encList {α : Type} (f : α → List Byte) (l : List α) : List Byte := u8 l.length ++ l.flatMap f
/-- A fixed number of like fields in turn, with no count. -/
def encTable {α : Type} {n : Nat} (f : α → List Byte) (v : Vector α n) : List Byte := v.toList.flatMap f
/-- A speed, or inactive: an optional speed. -/
def encSpeed (l : Option Nat) : List Byte := encOpt u16 l

/-! ### Named values, stands, zones, units (R193) -/

/-- The number of a stand, 1..7. -/
def Stand.number (n : Stand) : Nat := n.val + 1
/-- The stand of a number 1..7. -/
def Stand.ofNumber (k : Nat) : Option Stand := if h : 1 ≤ k ∧ k ≤ 7 then some ⟨k - 1, by omega⟩ else none
/-- The number of a glue unit, 1..4. -/
def GlueUnit.number (u : GlueUnit) : Nat := u.val + 1
/-- The glue unit of a number 1..4. -/
def GlueUnit.ofNumber (k : Nat) : Option GlueUnit := if h : 1 ≤ k ∧ k ≤ 4 then some ⟨k - 1, by omega⟩ else none
/-- The zone of a number 0..11. -/
def Zone.ofNumber (k : Nat) : Option Zone := if h : k < 12 then some ⟨k, h⟩ else none
/-- Code of an arm. -/
def Arm.code : Arm → Nat | .a => 0 | .b => 1
/-- The arm of a code. -/
def Arm.ofCode : Nat → Option Arm | 0 => some .a | 1 => some .b | _ => none
/-- Code of a station. -/
def Station.code : Station → Nat | .a => 0 | .b => 1
/-- The station of a code. -/
def Station.ofCode : Nat → Option Station | 0 => some .a | 1 => some .b | _ => none
/-- On or off of a code (R140, R152). -/
def onOfCode : Nat → Option Bool | 0 => some false | 1 => some true | _ => none
/-- Codes of span kinds (section 1.3.1). -/
def SpanKind.code : SpanKind → Nat
  | .splice => 0 | .mismatch => 1 | .heat => 2 | .glue => 3 | .misslit => 4 | .stop => 5 | .webBreak => 6 | .marked => 7
/-- Codes of span sources (R193). -/
def Source.code : Source → Nat
  | .stand n => n.val | .zone z => 7 + z.val | .glue u => 19 + u.val | .slitter => 23 | .estop => 24 | .link => 25
/-- Codes of line modes (section 10.1). -/
def Mode.code : Mode → Nat
  | .unconfigured => 0 | .stopped => 1 | .running => 2 | .stopping => 3 | .halted => 4 | .estopped => 5
/-- Codes of order states (section 2.2). -/
def OrderState.code : OrderState → Nat
  | .placed => 0 | .frozen => 1 | .cutting => 2 | .tailing => 3 | .done => 4 | .cancelled => 5
/-- Codes of skip causes (section 3.2). -/
def SkipCause.code : SkipCause → Nat | .held => 0 | .cycling => 1 | .estopped => 2 | .tooClose => 3
/-- Codes of sheet classes (R55). -/
def SheetClass.code : SheetClass → Nat | .good => 0 | .reject => 1 | .surplus => 2 | .waste => 3
/-- Codes of station states (R63). -/
def StationState.code : StationState → Nat | .idle => 0 | .setting => 1 | .ready => 2 | .engaged => 3 | .fault => 4
/-- Codes of stacker states (section 5.4). -/
def StackerState.code : StackerState → Nat | .building => 0 | .transferring => 1 | .blocked => 2
/-- Codes of roll states (section 6.2); EMPTY follows as 4. -/
def RollState.code : RollState → Nat | .loaded => 0 | .ready => 1 | .running => 2 | .expired => 3
/-- Codes of stand fault causes (R95). -/
def FaultCause.code : FaultCause → Nat
  | .webLost => 0 | .runOut => 1 | .cutFail => 2 | .pasteLimit => 3 | .spliceEstop => 4
/-- Codes of expiry states (R95). -/
def Expiry.code : Expiry → Nat | .notDue => 0 | .due => 1 | .raised => 2
/-- Codes of splice kinds (section 7.2). -/
def SpliceKind.code : SpliceKind → Nat | .planned => 0 | .expiry => 1 | .now => 2
/-- Codes of splice stages (section 7.2). -/
def Stage.code : Stage → Nat | .armed => 0 | .paste => 1 | .cut => 2 | .transfer => 3
/-- Codes of splice outcomes (R124). -/
def SpliceOutcome.code : SpliceOutcome → Nat
  | .complete => 0 | .aborted => 1 | .noReadyRoll => 2 | .pasteFail => 3 | .cutFail => 4 | .webBreak => 5 | .estop => 6
/-- Codes of header states (section 8.3). -/
def Header.code : Header → Nat | .off => 0 | .settling => 1 | .ready => 2 | .lost => 3
/-- Codes of zone states (section 8.4). -/
def ZoneState.code : ZoneState → Nat
  | .off => 0 | .waitingSupply => 1 | .below => 2 | .inWindow => 3 | .above => 4 | .probeFault => 5 | .noReading => 6
/-- Codes of glue states (section 9.2). -/
def GlueState.code : GlueState → Nat | .parked => 0 | .moving => 1 | .applying => 2 | .lifted => 3 | .fault => 4
/-- Codes of halt causes (R171). -/
def HaltCause.code : HaltCause → Nat | .webLost => 0 | .runOut => 1 | .cutFail => 2
/-- Codes of LINK causes (R190). -/
def LinkCause.code : LinkCause → Nat | .framing => 0 | .length => 1 | .gap => 2 | .check => 3 | .overrun => 4
/-- Codes of the limiting source, in the list order of section 10.4, then STOP, FAST and NONE. -/
def LimitSource.code : LimitSource → Nat
  | .requested => 0 | .order => 1 | .knife => 2 | .splice _ => 3 | .reserve => 4 | .heat => 5 | .slitter => 6
  | .stacker => 7 | .stop => 8 | .fast => 9 | .none => 10

/-- Status codes of a reply (R193). -/
inductive Status
  | ok | unknownRequest | badLength | badValue | wrongMode | notFound | duplicate | full | tooLate | inUse | notReady
  | busy
deriving DecidableEq, Repr

/-- The code of a status (R193). -/
def Status.code : Status → Nat
  | .ok => 0 | .unknownRequest => 1 | .badLength => 2 | .badValue => 3 | .wrongMode => 4 | .notFound => 5
  | .duplicate => 6 | .full => 7 | .tooLate => 8 | .inUse => 9 | .notReady => 10 | .busy => 11

/-! ### The check and the wire form of a frame (section 11.2) -/

/-- One bit step of the CRC-16 with polynomial 0x1021. -/
def crcBit (c : BitVec 16) : BitVec 16 := if c.msb then (c <<< 1) ^^^ 0x1021#16 else c <<< 1

/-- One byte of the CRC-16, most significant bit first. -/
def crcByte (c : BitVec 16) (b : Byte) : BitVec 16 :=
  crcBit (crcBit (crcBit (crcBit (crcBit (crcBit (crcBit (crcBit (c ^^^ (b.zeroExtend 16 <<< 8)))))))))

/-- The CRC-16 of a list of bytes, initial value 0xFFFF, no final inversion. -/
def crc16 (bs : List Byte) : BitVec 16 := bs.foldl crcByte 0xFFFF#16

/-- The bytes of a frame the check is computed over: length, kind, tag and payload. -/
def Frame.body (f : Frame) : List Byte := u16 f.payload.length ++ [f.kind, f.tag] ++ f.payload

/-- The bytes of a frame on the line: lead, body and check, low byte first. -/
def Frame.wire (f : Frame) : List Byte := 0x5A#8 :: (f.body ++ u16 (crc16 f.body).toNat)

/-! ### Replies (R194) -/

/-- A part of a reply's fields: plain bytes, or a list of encoded entries that may be cut from its end. -/
inductive Seg | raw (bs : List Byte) | list (entries : List (List Byte))
deriving DecidableEq, Repr

/-- The bytes of a part; a list has its count byte. -/
def Seg.bytes : Seg → List Byte
  | .raw bs => bs
  | .list es => u8 es.length ++ es.flatten

/-- The bytes of a reply's fields. -/
def segBytes (l : List Seg) : List Byte := l.flatMap Seg.bytes

/-- The number of list entries in a reply's fields. -/
def segEntries : List Seg → Nat
  | [] => 0
  | .raw _ :: l => segEntries l
  | .list es :: l => es.length + segEntries l

/-- Leave out the last entry of the last list that still has one. -/
def dropLastEntry : List Seg → List Seg
  | [] => []
  | .raw bs :: l => .raw bs :: dropLastEntry l
  | .list es :: l => if segEntries l = 0 then .list es.dropLast :: l else .list es :: dropLastEntry l

/-- R194: leave out entries from the end until the payload fits (status and complete bytes included); says whether every
field is present. -/
def cutToFit : Nat → List Seg → List Seg × Bool
  | 0, l => (l, true)
  | fuel + 1, l =>
    if 2 + (segBytes l).length ≤ Config.maxPayload ∨ segEntries l = 0 then (l, true)
    else ((cutToFit fuel (dropLastEntry l)).1, false)

/-- What an owning block answers: a status and the reply fields its rule gives. -/
structure Reply where
  status : Status
  fields : List Seg
deriving DecidableEq, Repr

/-- A reply of a status and no fields. -/
def Reply.just (st : Status) : Reply := { status := st, fields := [] }

/-- An OK reply with plain fields. -/
def Reply.okWith (bs : List Byte) : Reply := { status := .ok, fields := [.raw bs] }

/-- R194: the payload of a reply: status, complete, fields. -/
def Reply.payload (r : Reply) : List Byte :=
  let fitted := cutToFit (segEntries r.fields + 1) r.fields
  u8 r.status.code ++ encBool fitted.2 ++ segBytes fitted.1

/-- R194: the kind of the reply to a request kind. -/
def replyKind (kind : Byte) : Byte :=
  if kind = 0x00#8 ∨ 0x80 ≤ kind.toNat then 0xFF#8 else kind + 0x80#8

/-- R194: the reply frame to a request of this kind and tag. -/
def Reply.frame (r : Reply) (kind tag : Byte) : Frame := { kind := replyKind kind, tag := tag, payload := r.payload }

/-! ### Records of the owning chapters as fields -/

/-- A zone recipe as READ_ZONES gives it. -/
def ZoneRecipe.enc (r : ZoneRecipe) : List Byte := u16 r.setpoint ++ u16 r.low ++ u16 r.high ++ u16 r.base

/-- A breakpoint. -/
def Breakpoint.enc (b : Breakpoint) : List Byte := u16 b.speed ++ u16 b.gap

/-- The four breakpoints of a unit. -/
def encGlueRecipe (g : GlueRecipe) : List Byte := encTable Breakpoint.enc g

/-- A grade record, its fields in the row order of section 2.1 (log 13). -/
def Grade.enc (g : Grade) : List Byte :=
  encTable u8 g.kinds ++ encTable (fun z => u16 z.setpoint) g.zones ++
    encTable (fun z => u16 z.low ++ u16 z.high) g.zones ++ encTable (fun z => u16 z.base) g.zones ++
    encTable encGlueRecipe g.glue ++ u16 g.cap

/-- The order record as supplied (section 2.2). -/
def OrderSpec.enc (o : OrderSpec) : List Byte :=
  u32 o.id ++ u8 o.grade ++ u32 o.len ++ u32 o.ordered ++ u16 o.allowance ++ u16 o.stackSize ++ u16 o.width ++
    encList u16 o.slits ++ encList u16 o.scores ++ encOpt u16 o.cap ++ encOpt u8 o.interval

/-- The supplied roll fields (section 6.2). -/
def RollSpec.enc (r : RollSpec) : List Byte :=
  u32 r.id ++ u8 r.kind ++ u16 r.width ++ u16 r.diameter ++ u8 r.core ++ u16 r.caliper

/-- A cover entry (R55). -/
def Cover.enc (c : Cover) : List Byte := u32 c.id ++ u32 c.first ++ u32 c.last ++ encBool c.final

/-- A plan (section 7.2). -/
def Plan.enc (p : Plan) : List Byte := encPos p.b ++ u8 p.kind ++ u32 p.id ++ encOpt encPos p.owedFrom

/-- A set record (section 4.2). -/
def SetRec.enc (r : SetRec) : List Byte := u32 r.id ++ encList u16 r.slits ++ encList u16 r.scores

/-- An out-conveyor entry (section 5.4). -/
def OutEntry.enc (e : OutEntry) : List Byte := u32 e.id ++ u32 e.number ++ u16 e.count ++ encBool e.short

/-- The data of a SPLICE_END (R124). -/
def SpliceEnd.enc (d : SpliceEnd) : List Byte :=
  u8 (Stand.number d.stand) ++ u8 d.kind.code ++ u8 d.outcome.code ++ encBool d.lateCancel ++ encOpt encPos d.joint ++
    encOpt encPos d.b ++ encOpt (fun m => encPos m.1 ++ encPos m.2) d.mismatch ++ u8 (Arm.code d.standby) ++ u32 d.rollId ++
    u8 d.failures

/-- The open-for and floor of a span, each when present. -/
def Span.encOpen (x : Span) : List Byte :=
  encOpt (fun src => u8 (Source.code src)) x.openFor ++ encOpt encPos x.floor

/-- The fields every form of a span begins with, up to its end or reach, which is one knife position (R12, R16, R205). -/
def SpanView.encRange (v : SpanView) : List Byte :=
  u8 v.span.kind.code ++ u8 v.span.source.code ++ encPos v.span.start ++ encPos v.reach

/-- R16, R205: a span in the ADD_REJECT reply and in an ESTOP notice: kind, source, start, end or reach, coarse flag, and open-for
and floor when present. -/
def SpanView.enc (v : SpanView) : List Byte := v.encRange ++ encBool v.span.coarse ++ v.span.encOpen

/-- R12: a span in a MAP notice: as above, with no coarse flag. -/
def SpanView.encFold (v : SpanView) : List Byte := v.encRange ++ v.span.encOpen

/-- R17: an entry of READ_MAP: the end when closed and the reach when open are two fields, one of them present. -/
def SpanView.encListed (v : SpanView) : List Byte :=
  u8 v.span.kind.code ++ u8 v.span.source.code ++ encPos v.span.start ++ encOpt encPos v.span.stop ++
    encOpt encPos (if v.span.stop.isSome then none else some v.reach) ++ encBool v.span.coarse ++ v.span.encOpen

/-- The data of an event source (R205). -/
def EventData.enc : EventData → List Byte
  | .estop p m v => encPos p ++ u8 m.code ++ encOpt SpanView.enc v
  | .spliceEnd d => d.enc
  | .stackOut e k => e.enc ++ u8 k
  | .orderDone o =>
    u32 o.spec.id ++ u8 (if o.outcome = some 0 then 0 else 1) ++
      encOpt u32 (if o.outcome = some 0 then none else o.outcome) ++ u32 o.sheetsCut ++ u32 o.good ++ u32 o.rejected ++
      u32 o.surplus ++ u32 o.overflow ++ u32 o.skipped ++ u32 o.stacksDone
  | .orderProgress id k g => u32 id ++ u32 k ++ u32 g
  | .boundaryFrozen f b n => encOpt u32 f ++ encPos b ++ encOpt u32 n
  | .map v k src => v.encFold ++ u8 k.code ++ u8 src.code
  | .link c k t => u8 c.code ++ encOpt (fun b => [b]) k ++ encOpt (fun b => [b]) t

end Sys2Proof.Machine
end

