-- ==== Sys2Proof/Machine/RejectMap.lean ====
section
/-! DEFINITION. The Reject Map (section 1.3): coverage, adding and merging closed spans, opening and closing spans, folding
into a full map, the pass pointer and pruning. -/

namespace Sys2Proof.Machine

/-- The station distance that sets the extent of a source's open span (section 1.3.1); estop and link open none. -/
def State.distance (s : State) : Source → Nat
  | .stand n => s.dStand n
  | .zone z => s.dZone z
  | .glue u => s.dGlue u
  | .slitter => s.dSlit
  | .estop => 0
  | .link => 0

/-- R5: the reach of an open span: its extent, or the floor of a coarse one if higher. -/
def State.reachOf (s : State) (src : Source) (floor : Option Pos) : Pos :=
  let extent := s.tracker.pos.plus (s.distance src)
  match floor with
  | none => extent
  | some f => posMax s.tracker.pos extent f

/-- R5: where a span's coverage ends now: its end, or its reach while open. -/
def State.topOf (s : State) (sp : Span) : Pos :=
  match sp.stop with
  | some p => p
  | none => s.reachOf (sp.openFor.getD sp.source) sp.floor

/-- A span as a reply or notice shows it now. -/
def State.viewOf (s : State) (sp : Span) : SpanView := { span := sp, reach := s.topOf sp }

/-- R5: board [a, b) overlaps a span. An open span whose reach is not above its start covers nothing (log 14). -/
def State.overlaps (s : State) (a b : Pos) (sp : Span) : Bool :=
  let e := s.tracker.pos
  isBelow e sp.start (s.topOf sp) && isBelow e a (s.topOf sp) && isBelow e sp.start b

/-- R5: the map's answer to a coverage question. -/
def State.isCovered (s : State) (a b : Pos) : Bool := s.map.spans.any (s.overlaps a b)

/-- R4: map order: ascending start, the older first among equal starts. -/
def Span.before (e : Pos) (x y : Span) : Bool :=
  startBelow e x.start y.start || (decide (x.start = y.start) && decide (x.age < y.age))

/-- R4: put a span in its place in map order. -/
def mapInsert (e : Pos) (sp : Span) : List Span → List Span
  | [] => [sp]
  | x :: l => if sp.before e x then sp :: x :: l else x :: mapInsert e sp l

/-- R4: a start lies highest of all by its signed distance from E, where it lay lowest one count before. -/
def Span.turned (e : Pos) (x : Span) : Bool := decide (x.start - e = 0x7FFFFFFF#32)

/-- R4: the spans in map order when E has risen by one count to `e`: those whose start now lies highest go from the front to the end.
That is no change of the map's contents (R15). -/
def mapTurn (e : Pos) (l : List Span) : List Span := l.filter (fun x => !x.turned e) ++ l.filter (Span.turned e)

/-- R4: the age the next span entered takes; the first age after an empty map. -/
def RejectMap.entryAge (m : RejectMap) : Nat := if m.spans.isEmpty then 0 else m.nextAge

/-- R7: two closed spans of the same kind and source that overlap or touch. -/
def Span.joins (e : Pos) (x y : Span) : Bool :=
  match x.stop, y.stop with
  | some p, some q =>
    decide (x.kind = y.kind) && decide (x.source = y.source) && !isBelow e p y.start && !isBelow e q x.start
  | _, _ => false

/-- R7: one closed span out of two. -/
def Span.join (e : Pos) (x y : Span) : Span :=
  { kind := x.kind, source := x.source, start := posMin e x.start y.start,
    stop := some (posMax e (x.stop.getD x.start) (y.stop.getD y.start)), coarse := x.coarse || y.coarse,
    openFor := none, floor := none, age := min x.age y.age }

/-- R7: merge a closed span with all it joins, again and again, out of the spans given; what is left stays as it is. -/
def mergeSpan (e : Pos) : Nat → Span → List Span → Span × List Span
  | 0, sp, l => (sp, l)
  | fuel + 1, sp, l =>
    if l.any (sp.joins e) then
      mergeSpan e fuel ((l.filter (sp.joins e)).foldl (Span.join e) sp) (l.filter (fun x => !sp.joins e x))
    else (sp, l)

/-- R7, R4: merge a closed span and put the result in its place. -/
def mapMerge (e : Pos) (sp : Span) (l : List Span) : Span × List Span :=
  let m := mergeSpan e (l.length + 1) sp l
  (m.1, mapInsert e m.1 m.2)

/-- R15, R28: report a map change to the Order Book. Where the crossing of the freeze is waiting in the same step, the pass and the
freeze fall together and either may be taken first, the pass right before the freeze or after all that waits: a free choice (log 3). -/
def State.reportMapChange (s : State) : State :=
  if s.inbox.all (Ev.notFor .freeze) then s.post .mapChange
  else if Config.pick s.choice % 2 = 0 then { s.post .mapChange with choice := s.choice + 1 }
  else
    { s with
      inbox := s.inbox.takeWhile (Ev.notFor .freeze) ++ Ev.mapChange :: s.inbox.dropWhile (Ev.notFor .freeze),
      choice := s.choice + 1 }

/-- R15: replace the spans; a change of the contents is reported to the Order Book. A fold that alters nothing is not reported:
R15 is followed where R10 reports every fold (DESIGN CHOICE, log 39). -/
def State.setSpans (s : State) (l : List Span) (age : Nat) : State :=
  if l = s.map.spans then s else { s with map := { spans := l, nextAge := age } }.reportMapChange

/-- R6, R8: the clamp of a start. -/
def clampStart (e start : Pos) : Pos := if isReached e start then e else start

/-- R10, R11: the span with the highest start at or below a start, the last of several; the first if none. -/
def foldTarget (e start : Pos) (l : List Span) : Option Span :=
  match (l.filter (fun x => !startBelow e start x.start)).getLast? with
  | some x => some x
  | none => l.head?

/-- R10: a closed span folded into a target. -/
def foldClosed (e : Pos) (target sp : Span) : Span :=
  let top := sp.stop.getD sp.start
  let start := posMin e target.start sp.start
  match target.stop with
  | some q => { target with start := start, stop := some (posMax e q top), coarse := true }
  | none =>
    { target with
      start := start, coarse := true,
      floor := some (match target.floor with | some f => posMax e f top | none => top) }

/-- R11: an open span folded into a closed target. -/
def foldOpen (e : Pos) (target sp : Span) : Span :=
  { target with
    start := posMin e target.start sp.start, floor := target.stop, stop := none, openFor := some sp.source,
    coarse := true }

/-- R12: the MAP event, with the span after the fold and what was folded in. -/
def State.raiseMap (s : State) (after : Span) (kind : SpanKind) (src : Source) : State :=
  s.raise srcMap (.map (s.viewOf after) kind src)

/-- R6, R7, R10: add a closed span; answers the span that now holds the board, or none when it is dropped. Before GEOMETRY
the map takes no span (R18). -/
def State.addSpanTell (s : State) (kind : SpanKind) (src : Source) (start stop : Pos) : State × Option Span :=
  let e := s.tracker.pos
  let start' := clampStart e start
  if s.cfg.geometry.isNone || isReached e stop || !isBelow e start' stop then (s, none)
  else
    let sp : Span :=
      { kind := kind, source := src, start := start', stop := some stop, coarse := false, openFor := none, floor := none,
        age := s.map.entryAge }
    if s.map.spans.any (sp.joins e) then
      let m := mapMerge e sp s.map.spans
      (s.setSpans m.2 s.map.nextAge, some m.1)
    else if s.map.spans.length < Config.mapRoom then
      (s.setSpans (mapInsert e sp s.map.spans) (s.map.entryAge + 1), some sp)
    else
      match foldTarget e start' s.map.spans with
      | none => (s, none)
      | some t =>
        let rest := s.map.spans.filter (fun x => !decide (x = t))
        let folded := foldClosed e t sp
        let m := if folded.stop.isSome then mapMerge e folded rest else (folded, mapInsert e folded rest)
        let s1 := s.setSpans m.2 s.map.nextAge
        (s1.raiseMap m.1 kind src, some m.1)

/-- R6: add a closed span. -/
def State.addSpan (s : State) (kind : SpanKind) (src : Source) (start stop : Pos) : State :=
  (s.addSpanTell kind src start stop).1

/-- R4: the span open for a source. -/
def State.openSpanOf (s : State) (src : Source) : Option Span :=
  s.map.spans.find? (fun x => decide (x.openFor = some src))

/-- R8, R11: open a span. A full map with no closed span, which R11 says cannot be, is left as it is (log 28). -/
def State.openSpan (s : State) (kind : SpanKind) (src : Source) (start : Pos) : State :=
  let e := s.tracker.pos
  if s.cfg.geometry.isNone || (s.openSpanOf src).isSome then s
  else
    let sp : Span :=
      { kind := kind, source := src, start := clampStart e start, stop := none, coarse := false, openFor := some src,
        floor := none, age := s.map.entryAge }
    if s.map.spans.length < Config.mapRoom then s.setSpans (mapInsert e sp s.map.spans) (s.map.entryAge + 1)
    else
      match foldTarget e sp.start (s.map.spans.filter (fun x => x.stop.isSome)) with
      | none => s
      | some t =>
        let folded := foldOpen e t sp
        (s.setSpans (mapInsert e folded (s.map.spans.filter (fun x => !decide (x = t)))) s.map.nextAge).raiseMap
          folded kind src

/-- R9: close the span open for a source at a position. -/
def State.closeSpan (s : State) (src : Source) (at_ : Pos) : State :=
  let e := s.tracker.pos
  match s.openSpanOf src with
  | none => s
  | some t =>
    let rest := s.map.spans.filter (fun x => !decide (x = t))
    let stop := match t.floor with | some f => posMax e at_ f | none => at_
    if isBelow e t.start stop then
      s.setSpans (mapMerge e { t with stop := some stop, openFor := none, floor := none } rest).2 s.map.nextAge
    else s.setSpans rest s.map.nextAge

/-- R13: the pass pointer, as the number of spans before it: those before the first span whose start is at or above a
position (log 29). -/
def State.spansBefore (s : State) (c : Pos) : Nat :=
  (s.map.spans.takeWhile (fun x => isBelow s.tracker.pos x.start c)).length

/-- R14: prune at a cut: closed spans whose end lies at or below it go. -/
def State.prune (s : State) (c : Pos) : State :=
  s.setSpans
    (s.map.spans.filter (fun x => match x.stop with | some p => isBelow s.tracker.pos c p | none => true))
    s.map.nextAge

/-- R16: ADD_REJECT. -/
def State.reqAddReject (s : State) (start stop : Pos) : State × Reply :=
  let d := (stop - start).toNat
  if s.gov.mode = .unconfigured then (s, .just .wrongMode)
  else if d = 0 ∨ 2147483648 ≤ d then (s, .just .badValue)
  else if isReached s.tracker.pos stop then (s, .just .tooLate)
  else
    let r := s.addSpanTell .marked .link start stop
    (r.1, .okWith (match r.2 with | some sp => (r.1.viewOf sp).enc | none => []))

/-- R17: READ_MAP. -/
def State.reqReadMap (s : State) : State × Reply :=
  (s, { status := .ok,
        fields :=
          [.raw (encPos s.tracker.pos ++ u32 s.tracker.backtrack ++ encPos s.cutoff.lastCut ++
              u32 (s.spansBefore s.cutoff.lastCut)),
           .list (s.map.spans.map (fun sp => (s.viewOf sp).encListed))] })

end Sys2Proof.Machine
end

