-- ==== Sys2Proof/Machine/Book.lean ====
section
/-! DEFINITION. The Order Book (chapter 2): the grade table, acceptance, placement passes, freezing, the reports of the knife
and the stacker, the completed list and the book's requests. -/

namespace Sys2Proof.Machine

/-! ### Orders and grades -/

/-- The good sheets the book plans for an order: ordered count plus allowance (section 2.2). -/
def OrderSpec.n (o : OrderSpec) : Nat := o.ordered + o.allowance

/-- P of an order: L × CPM (R24). -/
def State.productOf (s : State) (o : OrderSpec) : Nat := o.len * s.cpm

/-- Cut j of a grid of product `p`, in counts after its start: floor(j × P / 10,000) (section 2.4). -/
def gridCut (p j : Nat) : Nat := j * p / 10000

/-- The knife-good count (section 2.2). -/
def Order.knifeGood (o : Order) : Nat := o.sheetsCut - o.rejected - o.surplus

/-- The outcome deficit of a SHORT order (R35). -/
def Order.deficit (o : Order) : Option Nat := if o.outcome = some 0 then none else o.outcome

/-- An order of the book by its id. -/
def State.order? (s : State) (id : Nat) : Option Order := s.book.orders.find? (fun o => decide (o.spec.id = id))

/-- A completed order by its id. -/
def State.completed? (s : State) (id : Nat) : Option Order :=
  s.book.completed.find? (fun o => decide (o.spec.id = id))

/-- The grade table entry of a code; none when empty or out of range. -/
def State.grade? (s : State) (code : Nat) : Option Grade :=
  if h : code < 64 then tget s.book.grades ⟨code, h⟩ else none

/-- The active orders naming a grade (R20). -/
def State.namingOf (s : State) (code : Nat) : Nat := if h : code < 64 then tget s.book.naming ⟨code, h⟩ else 0

/-- Change the number of active orders naming a grade. -/
def OrderBook.setNaming (b : OrderBook) (code : Nat) (f : Nat → Nat) : OrderBook :=
  if h : code < 64 then { b with naming := tset b.naming ⟨code, h⟩ (f (tget b.naming ⟨code, h⟩)) } else b

/-- The order after one in book order. -/
def nextOf (id : Nat) : List Order → Option Order
  | [] => none
  | o :: l => if o.spec.id = id then l.head? else nextOf id l

/-- The order before one in book order. -/
def prevOf (id : Nat) : List Order → Option Order
  | o :: p :: l => if p.spec.id = id then some o else prevOf id (p :: l)
  | _ => none

/-- The linked successor of an order (R25, R29). -/
def State.linkedNext (s : State) (id : Nat) : Option Order :=
  match nextOf id s.book.orders with
  | some o => if o.linked then some o else none
  | none => none

/-- R38, R41: an order's start is frozen: a head order's from acceptance, a linked order's with its predecessor's end. -/
def State.startFrozen (s : State) (o : Order) : Bool :=
  !o.linked || (match prevOf o.spec.id s.book.orders with | some p => p.frozen | none => true)

/-- Change an order of the book. -/
def State.updateOrder (s : State) (id : Nat) (f : Order → Order) : State :=
  { s with book := { s.book with orders := s.book.orders.map (fun o => if o.spec.id = id then f o else o) } }

/-- The active order in CUTTING. -/
def State.cuttingOrder (s : State) : Option Order := s.book.orders.find? (fun o => decide (o.state = .cutting))

/-! ### Planning (section 2.4), in distances from E -/

/-- A span's coverage as distances from E; none when it covers nothing. -/
def State.spanRange (s : State) (sp : Span) : Option (Int × Int) :=
  let a := lead s.tracker.pos sp.start
  let b := lead s.tracker.pos (s.topOf sp)
  if a < b then some (a, b) else none

/-- The coverage of the map at this moment (R5). -/
def State.badBoard (s : State) : List (Int × Int) := s.map.spans.filterMap s.spanRange

/-- A grid sheet overlaps no span. -/
def sheetClear (bad : List (Int × Int)) (a b : Int) : Bool := bad.all (fun r => !(decide (a < r.2) && decide (r.1 < b)))

/-- R26: the index of the grid cut at which the good sheets still needed are found; none when an end would lie beyond
reach (R28). -/
def findCut (p : Nat) (a0 : Int) (bad : List (Int × Int)) : Nat → Nat → Nat → Option Nat
  | _, j, 0 => some j
  | 0, _, _ + 1 => none
  | fuel + 1, j, need + 1 =>
    let lo := a0 + gridCut p j
    let hi := a0 + gridCut p (j + 1)
    if Config.passReach ≤ hi then none
    else findCut p a0 bad fuel (j + 1) (if sheetClear bad lo hi then need else need + 1)

/-- The least j whose grid cut lies at least `d` counts after the start. -/
def cutAtLeast (p : Nat) (d : Int) : Nat := (d.toNat * 10000 + p - 1) / p

/-- R26, R27: the planned end of an order with an unfrozen end; none when it would lie beyond reach (R28). The sums are of signed
distances and are not taken modulo 2^32, so an order whose start has come to lie 2^31 counts or more behind E is planned as if it
lay ahead, and its passes are not applied (DESIGN CHOICE, log 40). -/
def State.planEnd (s : State) (bad : List (Int × Int)) (o : Order) : Option Pos :=
  let p := s.productOf o.spec
  let a0 := s.tracker.pos.ahead o.start
  let d : Int := s.dFreeze
  match findCut p a0 bad Config.planBound o.gridPassed (OrderSpec.n o.spec - o.knifeGood) with
  | none => none
  | some j =>
    let candidate := a0 + gridCut p j
    let cut := if candidate < d then gridCut p (cutAtLeast p (d - a0)) else gridCut p j
    if Config.passReach ≤ a0 + cut then none else some (o.start.plus cut)

/-- R25, R28: place the orders in book order, given the end of the one before where that end is unfrozen; none when the pass is not
applied. A frozen end does not move again (R29), so the start of an order linked to it stays, also once the order before it is DONE. -/
def State.placeAll (s : State) (bad : List (Int × Int)) : Option Pos → List Order → Option (List Order)
  | _, [] => some []
  | before, o :: l =>
    if o.frozen then (s.placeAll bad none l).map (o :: ·)
    else
      let o1 := { o with start := if o.linked then before.getD o.start else o.start }
      match s.planEnd bad o1 with
      | none => none
      | some p => (s.placeAll bad (some p) l).map ({ o1 with stop := p } :: ·)

/-! ### Freezing (section 2.6) -/

/-- The first order in book order whose end is unfrozen. -/
def State.firstUnfrozen (s : State) : Option Order := s.book.orders.find? (fun o => !o.frozen)

/-- R30: the handovers of a boundary where the grade changes from one to the other. -/
def handovers (b : Pos) (id : Nat) (before : Stand → Option Nat) (after : Grade) : List Ev :=
  allStands.filterMap (fun n =>
    match before n with
    | none => none
    | some k => if k = tget after.kinds n then none else some (.handover n b (tget after.kinds n) id))

/-- R30, R31: the boundary actions at a freeze with a linked successor: the handovers in stand order, then the recipes, both after the
report to the Cutoff Unit (DESIGN CHOICE, log 47). -/
def State.boundaryActions (s : State) (o next : Order) : State :=
  match s.grade? o.spec.grade, s.grade? next.spec.grade with
  | some g, some g' =>
    (s.postAll (handovers o.stop next.spec.id (fun n => some (tget g.kinds n)) g')).post (.recipes o.stop g')
  | _, _ => s

/-- R29, R58: an order's end freezes at its planned end, and the freeze is reported to the Cutoff Unit. -/
def State.freezeOrder (s : State) (o : Order) : State :=
  let s1 := s.updateOrder o.spec.id (fun x =>
    { x with frozen := true, state := if x.state = .placed then .frozen else x.state })
  let next := s1.linkedNext o.spec.id
  let s2 :=
    (s1.raise srcBoundaryFrozen (.boundaryFrozen (some o.spec.id) o.stop (next.map (fun x => x.spec.id)))).post .endFrozen
  (match next with | some x => s2.boundaryActions o x | none => s2).post .orderChange

/-- R29: freeze every end whose point is reached and keep the registration at the first unfrozen end less D_FREEZE. -/
def State.followFreeze : Nat → State → State
  | 0, s => s
  | fuel + 1, s =>
    match s.firstUnfrozen with
    | none => s.withdraw .freeze
    | some o =>
      let p := o.stop.minus s.dFreeze
      if isReached s.tracker.pos p then State.followFreeze fuel ((s.withdraw .freeze).freezeOrder o)
      else if s.regs.freeze = some p then s
      else s.register .freeze p

/-- R29: follow the freeze registration; one round for each order and one to settle. -/
def State.updateFreeze (s : State) : State := State.followFreeze (s.book.orders.length + 1) s

/-- The placement of the orders: their starts and ends. -/
def placement (l : List Order) : List (Pos × Pos) := l.map (fun o => (o.start, o.stop))

/-- R28: a placement pass. -/
def State.placementPass (s : State) : State :=
  match s.placeAll s.badBoard none s.book.orders with
  | none => { s with book := { s.book with notApplied := true } }.updateFreeze
  | some l =>
    let s1 := { s with book := { s.book with orders := l, notApplied := false } }
    let s2 := if placement l = placement s.book.orders then s1 else s1.post .orderChange
    s2.updateFreeze

/-! ### Reports from the knife and the stacker (section 2.7) -/

/-- R33: the knife has passed an order's start. -/
def State.takeStartReport (s : State) (id : Nat) : State :=
  match s.order? id with
  | none => s
  | some o =>
    if o.state = .placed ∨ o.state = .frozen then
      (s.updateOrder id (fun x => { x with state := .cutting })).post .orderChange
    else s

/-- R33: the knife has passed a grid position of an order, perhaps its end. -/
def State.takePositionReport (s : State) (id : Nat) (isEnd : Bool) : State :=
  let s1 := s.updateOrder id (fun x => { x with gridPassed := x.gridPassed + 1 })
  match s1.order? id with
  | none => s1
  | some o =>
    if isEnd ∧ o.state = .cutting then (s1.updateOrder id (fun x => { x with state := .tailing })).post .orderChange
    else s1

/-- R33, R54 to R56: the knife has closed grid sheets of an order: `m` of them, of a class, perhaps in a long sheet. -/
def State.takeSheetReport (s : State) (id m : Nat) (cls : SheetClass) (long : Bool) : State :=
  s.updateOrder id (fun x =>
    { x with
      sheetsCut := x.sheetsCut + m, rejected := x.rejected + (if cls = .reject then m else 0),
      surplus := x.surplus + (if cls = .surplus then m else 0), skipped := x.skipped + (if long then m else 0) })

/-- R34: a sheet of an order was counted into a stack. -/
def State.takeGoodReport (s : State) (id : Nat) : State := s.updateOrder id (fun x => { x with good := x.good + 1 })

/-- R34: a GOOD sheet of an order was diverted at full fingers. -/
def State.takeOverflowReport (s : State) (id : Nat) : State :=
  s.updateOrder id (fun x => { x with overflow := x.overflow + 1 })

/-- R34: a stack of an order closed; ORDER_PROGRESS at each multiple of the interval. -/
def State.takeStackReport (s : State) (id : Nat) : State :=
  let s1 := s.updateOrder id (fun x => { x with stacksDone := x.stacksDone + 1 })
  match s1.order? id with
  | none => s1
  | some o =>
    match o.spec.interval with
    | none => s1
    | some k =>
      if k ≠ 0 ∧ o.stacksDone % k = 0 then s1.raise srcOrderProgress (.orderProgress id o.stacksDone o.good) else s1

/-- R36: an order joins the completed list; the oldest goes when it is full. -/
def OrderBook.complete (b : OrderBook) (o : Order) : OrderBook :=
  let kept := if Config.completedRoom ≤ b.completed.length then b.completed.drop 1 else b.completed
  { b.setNaming o.spec.grade (· - 1) with
    orders := b.orders.filter (fun x => !decide (x.spec.id = o.spec.id)), completed := kept ++ [o] }

/-- R35: the Stacker reports a TAILING order's last grid sheet through: the order goes DONE. -/
def State.takeEndReport (s : State) (id : Nat) : State :=
  match s.order? id with
  | none => s
  | some o =>
    if o.state = .tailing then
      let done := { o with state := .done, outcome := some (o.spec.ordered - o.good) }
      let s1 := { s with book := { s.book.complete done with lastDoneEnd := some o.stop } }
      let s2 := (s1.raise srcOrderDone (.orderDone done)).post .orderChange
      if s2.book.orders.isEmpty then s2.post .runOut else s2
    else s

/-! ### Limits (R41) -/

/-- The lowest of some speeds; none of none. -/
def lowest (l : List Nat) : Option Nat :=
  match l with
  | [] => none
  | x :: r => some (r.foldl min x)

/-- R41: an order is in the set of the ORDER limit. -/
def State.inOrderLimit (s : State) (o : Order) : Bool :=
  decide (o.state = .cutting) || (s.startFrozen o && (decide (o.state = .placed) || decide (o.state = .frozen)))

/-- R41: the ORDER limit. -/
def State.orderLimit (s : State) : Option Nat :=
  lowest ((s.book.orders.filter s.inOrderLimit).flatMap (fun o =>
    (match s.grade? o.spec.grade with | some g => [g.cap] | none => []) ++ o.spec.cap.toList))

/-! ### Requests -/

/-- R21: the ranges of a grade record. -/
def Grade.inRange (g : Grade) : Bool :=
  g.kinds.toList.all (fun k => decide (k ≤ 255)) &&
  g.zones.toList.all (fun z =>
    decide (z.setpoint ≤ 2200) && decide (1 ≤ z.low) && decide (z.low ≤ 500) && decide (1 ≤ z.high) &&
      decide (z.high ≤ 500) && decide (z.base ≤ 1000)) &&
  g.glue.toList.all (fun u =>
    u.toList.all (fun b => decide (b.speed ≤ 4500) && decide (50 ≤ b.gap) && decide (b.gap ≤ 800)) &&
      decide ((tget u 0).speed < (tget u 1).speed) && decide ((tget u 1).speed < (tget u 2).speed) &&
      decide ((tget u 2).speed < (tget u 3).speed)) &&
  decide (g.cap ≤ 4500)

/-- R21: SET_GRADE. -/
def State.reqSetGrade (s : State) (code : Nat) (g : Grade) : State × Reply :=
  if h : code < 64 then
    if !Grade.inRange g then (s, .just .badValue)
    else if s.namingOf code ≠ 0 then (s, .just .inUse)
    else ({ s with book := { s.book with grades := tset s.book.grades ⟨code, h⟩ (some g) } }, .okWith (u8 code))
  else (s, .just .badValue)

/-- R22: READ_GRADE. -/
def State.reqReadGrade (s : State) (code : Nat) : State × Reply :=
  if 64 ≤ code then (s, .just .badValue)
  else
    match s.grade? code with
    | none => (s, .just .notFound)
    | some g => (s, .okWith (Grade.enc g ++ u32 (s.namingOf code)))

/-- Neighbours of a position list: strictly increasing and at least the spacing apart (R24). -/
def spaced (gap : Nat) : List Nat → Bool
  | a :: b :: l => decide (a < b) && decide (a + gap ≤ b) && spaced gap (b :: l)
  | _ => true

/-- R24: the tests of a slit or score list. -/
def positionsOk (gap width lo hi : Nat) (l : List Nat) : Bool :=
  decide (lo ≤ l.length) && decide (l.length ≤ hi) && l.all (fun x => decide (0 < x) && decide (x < 10 * width)) &&
    spaced gap l

/-- HEAD_SPACING in force. -/
def State.headSpacing (s : State) : Nat := match s.cfg.geometry with | some g => g.headSpacing | none => 0

/-- R24 check 1. -/
def State.orderRanges (s : State) (o : OrderSpec) : Bool :=
  decide (1 ≤ o.id) && decide (o.id < 4294967296) && decide (o.grade ≤ 63) && decide (3000 ≤ o.len) &&
  decide (o.len ≤ 80000) && decide (1 ≤ o.ordered) && decide (o.ordered ≤ 99999) && decide (o.allowance ≤ 500) &&
  decide (1 ≤ o.stackSize) && decide (o.stackSize ≤ 999) && decide (800 ≤ o.width) && decide (o.width ≤ 2800) &&
  positionsOk s.headSpacing o.width 2 8 o.slits && positionsOk s.headSpacing o.width 0 12 o.scores &&
  (match o.cap with | some c => decide (c ≤ 4500) | none => true) &&
  (match o.interval with | some k => decide (1 ≤ k) && decide (k ≤ 99) | none => true)

/-- R24 check 2: the sheet arithmetic. -/
def State.orderSheets (s : State) (o : OrderSpec) : Bool :=
  let q0 := s.productOf o / 10000
  decide (s.dry.kMin ≤ q0) && decide (q0 ≤ 16777215) && decide (OrderSpec.n o * (q0 + 1) < 1073741824)

/-- R25: the tail of the book. -/
def State.tail (s : State) : Option Pos :=
  match s.book.orders.getLast? with
  | some o => some o.stop
  | none => s.book.lastDoneEnd

/-- R25: the freeze horizon. -/
def State.horizon (s : State) : Pos := s.tracker.pos.plus s.dFreeze

/-- R25: a new order as it is entered, its end not yet planned. -/
def State.freshOrder (s : State) (o : OrderSpec) : Order :=
  let linked := match s.book.orders.getLast? with | some p => !p.frozen | none => false
  let start := match s.tail with | some t => posMax s.tracker.pos t s.horizon | none => s.horizon
  { spec := o, state := .placed, start := start, stop := start, frozen := false, linked := linked, gridPassed := 0,
    sheetsCut := 0, rejected := 0, surplus := 0, skipped := 0, good := 0, overflow := 0, stacksDone := 0,
    outcome := none }

/-- R32: the paper kind a head order's start is compared with at a stand. -/
def State.referenceKind (s : State) (last : Option Order) (n : Stand) : Option Nat :=
  match last with
  | some o => (s.grade? o.spec.grade).map (fun g => tget g.kinds n)
  | none =>
    let r := s.stand n
    match r.armA, r.armB with
    | some x, y =>
      if x.state = .running then some x.spec.kind
      else (match y with | some z => if z.state = .running then some z.spec.kind else none | none => none)
    | none, some z => if z.state = .running then some z.spec.kind else none
    | none, none => none

/-- R32: the boundary actions at a head order's start, at its acceptance; `last` is the last other active order. The handovers come
first, then the recipes, then the report to the Cutoff Unit (DESIGN CHOICE, log 47). -/
def State.headActions (s : State) (o : Order) (last : Option Order) : State :=
  let s1 := s.raise srcBoundaryFrozen (.boundaryFrozen none o.start (some o.spec.id))
  match s.grade? o.spec.grade with
  | none => s1.post .headStart
  | some g =>
    ((s1.postAll (handovers o.start o.spec.id (s.referenceKind last) g)).post (.recipes o.start g)).post .headStart

/-- The reply fields of an accepted or changed order: start, planned end, frozen flag. -/
def Order.place (o : Order) : List Byte := encPos o.start ++ encPos o.stop ++ encBool o.frozen

/-- R24: enter an accepted order: boundary actions of a head order, the report to the Governor, the placement pass and the
order change. -/
def State.acceptOrder (s : State) (o : Order) : State :=
  let last := s.book.orders.getLast?
  let b := s.book.setNaming o.spec.grade (· + 1)
  let s1 := { s with book := { b with orders := b.orders ++ [o] } }
  let s2 := if o.linked then s1 else s1.headActions o last
  ((s2.post .accepted).post .orderChange).placementPass

/-- R24: ADD_ORDER. The reply gives the placement after the acceptance's own placement pass, not the one of check 5, from which
it differs when open spans have grown since (DESIGN CHOICE, log 41). -/
def State.reqAddOrder (s : State) (o : OrderSpec) : State × Reply :=
  if s.gov.mode = .unconfigured then (s, .just .wrongMode)
  else if !s.orderRanges o then (s, .just .badValue)
  else if !s.orderSheets o then (s, .just .badValue)
  else if (s.grade? o.grade).isNone then (s, .just .notFound)
  else if (s.order? o.id).isSome ∨ (s.completed? o.id).isSome then (s, .just .duplicate)
  else if Config.bookRoom ≤ s.book.orders.length then (s, .just .full)
  else
    let f := s.freshOrder o
    match s.planEnd s.badBoard f with
    | none => (s, .just .full)
    | some p =>
      if Config.acceptReach ≤ s.tracker.pos.ahead p then (s, .just .full)
      else
        let s1 := s.acceptOrder { f with stop := p }
        match s1.order? o.id with
        | none => (s1, .just .ok)
        | some x => (s1, .okWith (u32 o.id ++ u8 x.state.code ++ x.place))

/-- R37: CHANGE_COUNT. -/
def State.reqChangeCount (s : State) (id ordered allowance : Nat) : State × Reply :=
  match s.order? id with
  | none => (s, .just (if (s.completed? id).isSome then .tooLate else .notFound))
  | some o =>
    let n := ordered + allowance
    if ordered < 1 ∨ 99999 < ordered ∨ 500 < allowance then (s, .just .badValue)
    else if 1073741824 ≤ n * (s.productOf o.spec / 10000 + 1) then (s, .just .badValue)
    else if o.frozen then (s, .just .tooLate)
    else if n < o.knifeGood then (s, .just .badValue)
    else
      let s1 := (s.updateOrder id (fun x =>
        { x with spec := { x.spec with ordered := ordered, allowance := allowance } })).placementPass
      (s1, .okWith (match s1.order? id with | some x => x.place | none => []))

/-- R38: CANCEL_ORDER. -/
def State.reqCancelOrder (s : State) (id : Nat) : State × Reply :=
  match s.order? id with
  | none => (s, .just (if (s.completed? id).isSome then .tooLate else .notFound))
  | some o =>
    if s.startFrozen o then (s, .just .tooLate)
    else
      let next := s.linkedNext id
      let b := s.book.complete { o with state := .cancelled }
      let s1 := { s with book := b }
      let s2 :=
        match next with
        | some x => s1.updateOrder x.spec.id (fun y => { y with start := o.start })
        | none => s1
      (((s2.post .orderChange).placementPass), .just .ok)

/-- The outcome and deficit as reply fields: present when DONE. -/
def Order.encOutcome (o : Order) : List Byte :=
  encOpt u8 (o.outcome.map (fun d => if d = 0 then 0 else 1)) ++ encOpt u32 o.deficit

/-- R39: READ_ORDER. -/
def State.reqReadOrder (s : State) (id : Nat) : State × Reply :=
  match (s.order? id).orElse (fun _ => s.completed? id) with
  | none => (s, .just .notFound)
  | some o =>
    (s, .okWith (OrderSpec.enc o.spec ++ u32 (OrderSpec.n o.spec) ++ u8 o.state.code ++ o.place ++ u32 o.gridPassed ++
      u32 o.sheetsCut ++ u32 o.rejected ++ u32 o.surplus ++ u32 o.skipped ++ u32 o.good ++ u32 o.overflow ++
      u32 o.stacksDone ++ o.encOutcome))

/-- R40: LIST_ORDERS. -/
def State.reqListOrders (s : State) : State × Reply :=
  (s, { status := .ok,
        fields :=
          [.list (s.book.orders.map (fun o =>
            u32 o.spec.id ++ u8 o.state.code ++ encBool o.frozen ++ encPos o.start ++ encPos o.stop ++
              u32 (OrderSpec.n o.spec) ++ u32 o.knifeGood ++ u32 o.good))] })

/-- R40: READ_COMPLETED. -/
def State.reqReadCompleted (s : State) : State × Reply :=
  (s, { status := .ok,
        fields :=
          [.list (s.book.completed.map (fun o =>
            u32 o.spec.id ++ u8 o.state.code ++ o.encOutcome ++ u32 o.good ++ u32 o.rejected ++ u32 o.surplus ++
              u32 o.overflow ++ u32 o.skipped))] })

end Sys2Proof.Machine
end

