-- ==== Sys2Proof/Machine/Knife.lean ====
section
/-! DEFINITION. The Cutoff Unit (chapter 3): the grids, the cut event, the classes of sheets, the KNIFE limit and the knife's
requests. -/

namespace Sys2Proof.Machine

/-! ### Grids (sections 3.3, 3.4) -/

/-- R48: the remainder carry: the length of the next sheet and the remainder after it. -/
def carry (q0 r0 r : Nat) : Nat × Nat := if 10000 ≤ r + r0 then (q0 + 1, r + r0 - 10000) else (q0, r + r0)

/-- R48: the grid record one step on: the next cut lies the answered length after the position passed. -/
def Grid.advance (g : Grid) : Grid × Nat :=
  let c := carry g.q0 g.r0 g.r
  ({ g with r := c.2 }, c.1)

/-- Register the next cut. -/
def State.setCut (s : State) (g : Segment) (p : Pos) : State :=
  { s with cutoff := { s.cutoff with segment := g } }.register .cut p

/-- R58: the KNIFE limit is recomputed, with the CPM in force and the WASTE_LEN that applies at the knife (R45). A GEOMETRY accepted in
STOPPED is no such event, and neither is a waste cut computed within a WASTE segment (log 18). -/
def Cutoff.rate (k : Cutoff) (cpm : Nat) : Cutoff := { k with limitCpm := cpm, limitWaste := k.wasteLen }

/-- R58: the Cutoff Unit recomputes the KNIFE limit. -/
def State.rateNow (s : State) : State := { s with cutoff := s.cutoff.rate s.cpm }

/-- R47: load an order's grid record at its start and register its first cut. -/
def State.loadGrid (s : State) (o : Order) : State :=
  let p := s.productOf o.spec
  let g : Grid :=
    { id := o.spec.id, start := o.start, product := p, q0 := p / 10000, r0 := p % 10000, r := 0, j := 1, g := 0 }
  s.rateNow.setCut (.order g.advance.1) (o.start.plus g.advance.2)

/-- R50: the first active order whose start lies beyond a position. -/
def State.orderBeyond (s : State) (c : Pos) : Option Order := s.book.orders.find? (fun o => isBeyond c o.start)

/-- R50: the next waste cut after a position, with the WASTE_LEN and K_MIN of the DRYEND section in force. -/
def State.wasteCut (s : State) (c : Pos) : Pos :=
  let w := c.plus s.dry.wasteLen
  match s.orderBeyond c with
  | none => w
  | some o => if w.ahead o.start < (s.dry.kMin : Int) then o.start else w

/-- R45, R50: go on in a WASTE segment at a position. The waste cut computed here is the first to which K_MIN and WASTE_LEN of the
DRYEND section in force apply, and they apply at the knife from it on (log 49). -/
def State.wasteFrom (s : State) (c : Pos) : State :=
  { s with cutoff := { s.cutoff with lastPassed := some c, kMin := s.dry.kMin, wasteLen := s.dry.wasteLen } }.setCut
    .waste (s.wasteCut c)

/-- R50, R58: a WASTE segment is entered, or its next cut computed anew, at an event that recomputes the KNIFE limit. -/
def State.enterWaste (s : State) (c : Pos) : State := (s.wasteFrom c).rateNow

/-- R51: a head order's start is reported: in a WASTE segment the next cut is recomputed from last passed. -/
def State.takeHeadStart (s : State) : State :=
  match s.cutoff.segment, s.cutoff.lastPassed with
  | .waste, some c => s.enterWaste c
  | _, _ => s.rateNow

/-! ### The cut event (section 3.5) -/

/-- R55: add grid sheet `j` of an order to a cover list. -/
def addCover (id j : Nat) (final : Bool) : List Cover → List Cover
  | [] => [{ id := id, first := j, last := j, final := final }]
  | [c] =>
    if c.id = id then [{ c with last := j, final := final }]
    else [c, { id := id, first := j, last := j, final := final }]
  | c :: d :: l => c :: addCover id j final (d :: l)

/-- R49: a grid position equals its order's planned end. -/
def State.isEndAt (s : State) (id : Nat) (c : Pos) : Bool :=
  match s.order? id with | some o => decide (o.stop = c) | none => false

/-- The open sheet with the board that ends at a position: its cover list and its waste-board flag (R55, R56). -/
def State.openSheetAt (s : State) (c : Pos) : List Cover × Bool :=
  match s.cutoff.segment with
  | .order g => (addCover g.id g.j (s.isEndAt g.id c) s.cutoff.openSheet, s.cutoff.openWaste)
  | _ => (s.cutoff.openSheet, true)

/-- R52: why the cut at a position is not made, if it is not. K_MIN is the one that applies at the knife (R45, log 49). -/
def State.skipCauseAt (s : State) (c : Pos) : Option SkipCause :=
  let close := match s.cutoff.lastPassed with | some p => decide ((c - p).toNat < s.cutoff.kMin) | none => false
  if close then some .tooClose
  else if !s.cutoff.ready then some .held
  else if s.cutoff.cycle.isSome then some .cycling
  else if s.gov.mode = .estopped then some .estopped
  else none

/-- R53: the class of the sheet closed at a position. -/
def State.classAt (s : State) (c : Pos) : SheetClass :=
  let long := !s.cutoff.openSheet.isEmpty || s.cutoff.openWaste
  let covers := (s.openSheetAt c).1
  if s.isCovered s.cutoff.lastCut c then .reject
  else if long && !covers.isEmpty then .reject
  else
    match s.cutoff.segment with
    | .order g =>
      let n := match s.order? g.id with | some o => OrderSpec.n o.spec | none => 0
      if n ≤ g.g then .surplus else .good
    | _ => .waste

/-- R53: the good-classed count rises at a GOOD sheet. -/
def Segment.count (cls : SheetClass) : Segment → Segment
  | .order g => .order (if cls = .good then { g with g := g.g + 1 } else g)
  | x => x

/-- R54: the sheet reports of a closed sheet, one for each order it covers. -/
def sheetReports (cls : SheetClass) (long : Bool) (covers : List Cover) : List Ev :=
  covers.map (fun k => .sheetReport k.id (k.last + 1 - k.first) cls long)

/-- R52, R53, R55, R56: the knife fires at a position. -/
def State.fireCut (s : State) (c : Pos) : State :=
  let k := s.cutoff
  let long := !k.openSheet.isEmpty || k.openWaste
  let part := s.openSheetAt c
  let cls := s.classAt c
  let s1 := { s with
    cutoff := { k with cycle := some s.dry.knifeCycle, made := k.made + 1, lastCut := c, openSheet := [],
                       openWaste := false, segment := k.segment.count cls } }
  (s1.postAll (sheetReports cls long part.1)).post
    (.sheet { start := k.lastCut, stop := c, cls := cls, covers := part.1, wasteBoard := part.2 })

/-- R55: a skipped cut. -/
def State.skipCut (s : State) (c : Pos) (cause : SkipCause) : State :=
  let part := s.openSheetAt c
  { s with
    cutoff := { s.cutoff with skipped := s.cutoff.skipped + 1, lastSkip := some cause, openSheet := part.1,
                              openWaste := part.2 } }

/-- R47, R54: pass an order's start: the start report, and its grid is loaded. -/
def State.passStart (s : State) (o : Order) : State := (s.post (.startReport o.spec.id)).loadGrid o

/-- R48, R49, R50: the position and start reports of a position passed, and the next cut. -/
def State.passCut (s : State) (c : Pos) : State :=
  let s1 := { s with cutoff := { s.cutoff with lastPassed := some c } }
  match s1.cutoff.segment with
  | .order g =>
    let isEnd := s1.isEndAt g.id c
    let s2 := s1.post (.positionReport g.id isEnd)
    if isEnd then
      match nextOf g.id s2.book.orders with
      | some o => if o.start = c then s2.passStart o else s2.enterWaste c
      | none => s2.enterWaste c
    else
      let next := { g with j := g.j + 1 }.advance
      s2.setCut (.order next.1) (c.plus next.2)
  | _ =>
    match s1.book.orders.find? (fun o => decide (o.start = c) && (decide (o.state = .placed) || decide (o.state = .frozen))) with
    | some o => s1.passStart o
    | none => s1.wasteFrom c

/-- R52: the registered next cut is reached. Its reports are taken before all that waits and pruning (R14) comes last, so that no
placement pass finds the map pruned and the reports of this cut not taken (log 17). -/
def State.takeCut (s : State) (c : Pos) : State :=
  match s.skipCauseAt c with
  | some cause => s.reportAhead .cut (fun t => (t.skipCut c cause).passCut c)
  | none => (s.reportAhead .cut (fun t => (t.fireCut c).passCut c)).prune c

/-! ### The KNIFE limit (section 3.6) -/

/-- R57: the knife value of a sheet length. -/
def State.knifeValue (s : State) (len : Nat) : Nat := min Config.topSpeed (len * s.dry.cMax / 1000)

/-- R45, R57: the knife value of waste, with C_MAX at once and the WASTE_LEN and CPM of the last recomputation (R58). -/
def State.wasteValue (s : State) : Nat := s.knifeValue (s.cutoff.limitWaste * 10000 / s.cutoff.limitCpm)

/-- R58: the KNIFE limit. -/
def State.knifeLimit (s : State) : Option Nat :=
  if s.gov.mode = .unconfigured then none
  else if !s.cutoff.ready then some 0
  else
    match s.cutoff.segment with
    | .none => none
    | .waste =>
      let here := s.wasteValue
      match s.cutoff.lastPassed.bind s.orderBeyond with
      | some o => some (min here (s.knifeValue o.spec.len))
      | none => some here
    | .order g =>
      match s.order? g.id with
      | none => none
      | some o =>
        let here := s.knifeValue o.spec.len
        if o.frozen then
          match nextOf g.id s.book.orders with
          | some x => if x.start = o.stop then some (min here (s.knifeValue x.spec.len)) else some (min here s.wasteValue)
          | none => some (min here s.wasteValue)
        else some here

/-! ### Modes and requests -/

/-- R46, R62: the line leaves UNCONFIGURED. -/
def State.knifeModeEntry (s : State) (before after : Mode) : State :=
  if before = .unconfigured ∧ after ≠ .unconfigured then
    { s with cutoff := { s.cutoff with ready := true } }.enterWaste s.tracker.pos
  else s

/-- The knife state as a field: HELD 0, READY 1. -/
def encKnife (ready : Bool) : List Byte := u8 (if ready then 1 else 0)

/-- R59: HOLD_KNIFE. -/
def State.reqHoldKnife (s : State) : State × Reply :=
  if s.gov.mode = .unconfigured then (s, .just .wrongMode)
  else ({ s with cutoff := { s.cutoff with ready := false } }, .okWith (encKnife false))

/-- R58, R60: the knife is READY; where it was HELD, the KNIFE limit is recomputed. -/
def Cutoff.release (k : Cutoff) (cpm : Nat) : Cutoff :=
  if k.ready then k else { k with ready := true }.rate cpm

/-- R60: RELEASE_KNIFE. -/
def State.reqReleaseKnife (s : State) : State × Reply :=
  if s.gov.mode = .unconfigured then (s, .just .wrongMode)
  else ({ s with cutoff := s.cutoff.release s.cpm }, .okWith (encKnife true))

/-- A time left on a timer as a field: 0 when it does not run (log 6, 13). -/
def State.encTime (s : State) (k : Nat) : Option Nat → List Byte
  | none => u32 0
  | some len => u32 (s.timeLeft k len)

/-- The free values of this read are used up: the next read takes others. -/
def State.spendChoice (s : State) (k : Nat) : State := { s with choice := s.choice + k }

/-- The segment as a field: ORDER 0, WASTE 1, none 2 (log 13); then the order id when ORDER. -/
def Segment.enc : Segment → List Byte
  | .order g => u8 0 ++ encOpt u32 (some g.id)
  | .waste => u8 1 ++ encOpt u32 Option.none
  | .none => u8 2 ++ encOpt u32 Option.none

/-- The grid record of READ_KNIFE. r takes 2 bytes, by the range 0..9,999 to which R48 holds it (DEDUCED, log 13). -/
def Grid.enc (g : Grid) : List Byte := encPos g.start ++ u32 g.q0 ++ u16 g.r0 ++ u16 g.r ++ u32 g.j ++ u32 g.g

/-- The grid record of an ORDER segment. -/
def Segment.grid? : Segment → Option Grid
  | .order g => some g
  | _ => Option.none

/-- R61: READ_KNIFE. -/
def State.reqReadKnife (s : State) : State × Reply :=
  let k := s.cutoff
  (s.spendChoice 1,
   { status := .ok,
     fields :=
       [.raw (encKnife k.ready ++ encBool k.cycle.isSome ++ s.encTime 0 k.cycle ++ k.segment.enc ++
           encOpt Grid.enc k.segment.grid? ++ encOpt encPos s.regs.cut ++ encOpt encPos k.lastPassed ++ encPos k.lastCut),
        .list (k.openSheet.map Cover.enc),
        .raw (encBool k.openWaste ++ u32 k.made.toNat ++ u32 k.skipped.toNat ++
          encOpt (fun c => u8 (SkipCause.code c)) k.lastSkip ++ encSpeed s.limits.knife)] })

end Sys2Proof.Machine
end

