-- ==== Sys2Proof/Machine/Slit.lean ====
section
/-! DEFINITION. The Slitter Pair (chapter 4): stations and their sets, the running and next order, the standby, swaps, the
SLITTER limit and the pair's requests. -/

namespace Sys2Proof.Machine

/-! ### Stations and sets (section 4.2) -/

/-- The set of an order. -/
def OrderSpec.set (o : OrderSpec) : SetRec := { id := o.id, slits := o.slits, scores := o.scores }

/-- Two sets are equal when their lists are; the order id takes no part. -/
def SetRec.same (a b : SetRec) : Bool := decide (a.slits = b.slits) && decide (a.scores = b.scores)

/-- A station's record. -/
def Slitter.station (p : Slitter) : Station → StationRec
  | .a => p.stationA
  | .b => p.stationB

/-- Replace a station's record. -/
def Slitter.setStation (p : Slitter) (st : Station) (r : StationRec) : Slitter :=
  match st with
  | .a => { p with stationA := r }
  | .b => { p with stationB := r }

/-- Change a station. -/
def State.updStation (s : State) (st : Station) (f : StationRec → StationRec) : State :=
  { s with slitter := s.slitter.setStation st (f (s.slitter.station st)) }

/-- The state of a station. -/
def State.stationState (s : State) (st : Station) : StationState := (s.slitter.station st).state

/-- A station holds a set equal to one. -/
def State.holds (s : State) (st : Station) (r : SetRec) : Bool :=
  match (s.slitter.station st).set with | some x => x.same r | none => false

/-- A station holds a set equal to one, in a state. -/
def State.holdsIn (s : State) (st : Station) (r : SetRec) (q : StationState) : Bool :=
  decide (s.stationState st = q) && s.holds st r

/-- The ENGAGED station. -/
def Slitter.engaged (p : Slitter) : Option Station :=
  if p.stationA.state = .engaged then some .a else if p.stationB.state = .engaged then some .b else none

/-- R63: the engage output of a station. -/
def StationRec.engage (r : StationRec) : Bool := decide (r.state = .engaged)

/-- R63: a station enters IDLE: its set record is dropped and its timer stops. -/
def StationRec.toIdle (r : StationRec) : StationRec := { r with state := .idle, set := none, timer := none }

/-- R64: the targets of a row of heads: the positions in turn, then the park target. -/
def headTargets (k : Nat) (l : List Nat) : Vector HeadTarget k :=
  Vector.ofFn (fun i => match l[i.val]? with | some p => .at p | none => .park)

/-- R64: loads are taken in modes other than ESTOPPED and UNCONFIGURED. -/
def State.slitActs (s : State) : Bool := !decide (s.gov.mode = .estopped) && !decide (s.gov.mode = .unconfigured)

/-- R64: a station loads a set: targets are sent, it enters SETTING and its timer starts. A station in FAULT or ENGAGED does
not load, and none loads in ESTOPPED or UNCONFIGURED. -/
def State.load (s : State) (st : Station) (r : SetRec) : State :=
  if s.slitActs ∧ s.stationState st ≠ .fault ∧ s.stationState st ≠ .engaged then
    s.updStation st (fun _ =>
      { state := .setting, set := some r, timer := some s.dry.setTime, slitHeads := headTargets 8 r.slits,
        scoreHeads := headTargets 12 r.scores })
  else s

/-- A station takes an order's id into its set record. -/
def State.takeId (s : State) (st : Station) (id : Nat) : State :=
  s.updStation st (fun x => { x with set := x.set.map (fun r => { r with id := id }) })

/-! ### Running order, next order and the line set (section 4.3) -/

/-- The line set: the awaited order's set, or the ENGAGED station's. -/
def Slitter.lineSet (p : Slitter) : Option SetRec :=
  match p.awaited with
  | some w => some w
  | none => match p.engaged with | some e => (p.station e).set | none => none

/-- The set a new order is compared with: the deferred order's while a swap is deferred (R73), else the line set. -/
def Slitter.compareSet (p : Slitter) : Option SetRec :=
  match p.deferred with
  | some d => some d.set
  | none => p.lineSet

/-- Section 4.3: a set equals the line set. -/
def Slitter.onLine (p : Slitter) (r : SetRec) : Bool := match p.lineSet with | some x => x.same r | none => false

/-- R68: an order's set is the one compared with: no swap is needed. -/
def Slitter.carried (p : Slitter) (r : SetRec) : Bool := match p.compareSet with | some x => x.same r | none => false

/-- Section 4.3: the next order N. -/
def State.nextOrder (s : State) : Option Order :=
  match s.slitter.running with
  | none => s.book.orders.head?
  | some r => if (s.order? r).isSome then nextOf r s.book.orders else s.book.orders.head?

/-- The order the pair holds as N. -/
def State.heldNext (s : State) : Option Order := s.slitter.next.bind (fun x => s.order? x.1)

/-- The window start of a start position (R66). -/
def State.windowStart (s : State) (start : Pos) : Pos := (start.minus s.dSlit).minus s.wSlit

/-- The trigger of a start position (R66). -/
def State.triggerOf (s : State) (start : Pos) : Pos := start.minus s.dSlit

/-- R66: compute N anew and keep its two registrations. -/
def State.updateNext (s : State) : State :=
  match s.nextOrder with
  | none =>
    let s1 := { s with slitter := { s.slitter with next := none, inWindow := false } }
    (s1.withdraw .slitWindow).withdraw .slitTrigger
  | some o =>
    if s.slitter.next = some (o.spec.id, o.start) then s
    else
      let kept := match s.slitter.next with | some x => decide (x.1 = o.spec.id) | none => false
      let s1 := { s with
        slitter := { s.slitter with next := some (o.spec.id, o.start), inWindow := kept && s.slitter.inWindow } }
      (s1.register .slitWindow (s.windowStart o.start)).register .slitTrigger (s.triggerOf o.start)

/-- R67: the standby station; while a swap is awaited, the station that is not the incoming one (log 15). -/
def State.standby (s : State) : Option Station :=
  if s.slitter.awaited.isSome then s.slitter.incoming.map Station.other
  else
    match s.slitter.engaged with
    | some e => some (Station.other e)
    | none => some (if s.stationState .a = .fault then .b else .a)

/-- R67 cases 1 and 2: a standby in SETTING or READY enters IDLE. -/
def State.restStandby (s : State) (st : Station) : State :=
  if s.stationState st = .setting ∨ s.stationState st = .ready then s.updStation st StationRec.toIdle else s

/-- R67: set the standby for N. -/
def State.setStandby (s : State) : State :=
  if s.slitter.deferred.isSome then s
  else
    match s.standby with
    | none => s
    | some st =>
      match s.heldNext with
      | none => s.restStandby st
      | some o =>
        let r := OrderSpec.set o.spec
        if s.slitter.carried r then s.restStandby st
        else if s.stationState st = .fault then s
        else if s.holds st r then s.takeId st r.id
        else s.load st r

/-- R66, R67: compute N and set the standby. -/
def State.refreshNext (s : State) : State := s.updateNext.setStandby

/-! ### Swaps (section 4.4) -/

/-- R70: a station engages for the awaited swap: the MISSLIT span closes and the awaited flag is cleared. -/
def State.engageFor (s : State) (st : Station) : State :=
  let s1 := s.updStation st (fun x => { x with state := .engaged, timer := none })
  { s1 with slitter := { s1.slitter with awaited := none, incoming := none } }.closeSpan .slitter
    (s.tracker.pos.plus s.dSlit)

/-- R69, fourth: choose the incoming station, given the outgoing one, and load it. Where both stations are SETTING with the set, A
is taken (DESIGN CHOICE, log 42). -/
def State.chooseIncoming (s : State) (outgoing : Option Station) (r : SetRec) : State :=
  let become := fun (st : Station) (t : State) => { t with slitter := { t.slitter with incoming := some st } }
  if s.holdsIn .a r .setting then become .a s
  else if s.holdsIn .b r .setting then become .b s
  else
    let first : Station :=
      match outgoing with
      | some o => Station.other o
      | none => if s.stationState .a = .fault then .b else .a
    if s.stationState first ≠ .fault then become first (s.load first r)
    else
      match outgoing with
      | some o => become o (s.load o r)
      | none => { s with slitter := { s.slitter with incoming := none } }

/-- The ENGAGED station turns off its engage output and enters IDLE. -/
def State.disengage (s : State) : State :=
  match s.slitter.engaged with | some e => s.updStation e StationRec.toIdle | none => s

/-- R69: a late swap for an order whose start is given. With `ready`, a standby found READY with the set is the incoming
station and engages at once (R74). -/
def State.lateSwap (s : State) (start : Pos) (r : SetRec) (ready : Option Station) : State :=
  let outgoing := s.slitter.engaged
  let s1 := s.disengage.openSpan .misslit .slitter start
  let s2 := { s1 with slitter := { s1.slitter with awaited := some r } }
  match ready with
  | some st => s2.engageFor st
  | none => s2.chooseIncoming outgoing r

/-- R68: the standby, READY with a set. -/
def State.readyStandby (s : State) (r : SetRec) : Option Station :=
  match s.standby with
  | some st => if s.holdsIn st r .ready then some st else none
  | none => none

/-- R68: a ready swap. -/
def State.readySwap (s : State) (st : Station) : State :=
  s.disengage.updStation st (fun x => { x with state := .engaged })

/-- R63: a station is sent to IDLE; a change of its state marks SLITTER (R78), even where it loads again in the same event. -/
def State.idleStation (s : State) (st : Station) : State :=
  (s.updStation st StationRec.toIdle).markIf (!decide (s.stationState st = .idle)) srcSlitter

/-- R71: a trigger while a swap is awaited. Where its set equals the awaited one, the set record of the incoming station takes the new
order's id (DESIGN CHOICE, log 25). -/
def State.triggerAwaited (s : State) (w r : SetRec) : State :=
  let s1 := { s with slitter := { s.slitter with awaited := some r } }
  match s.slitter.incoming with
  | none => s1.chooseIncoming none r
  | some i =>
    if w.same r then s1.takeId i r.id
    else if s.holdsIn (Station.other i) r .ready then (s1.idleStation i).engageFor (Station.other i)
    else if s.holdsIn (Station.other i) r .setting then
      let s2 := s1.idleStation i
      { s2 with slitter := { s2.slitter with incoming := some (Station.other i) } }
    else s1.load i r

/-- R73: a trigger taken in ESTOPPED. -/
def State.triggerEstopped (s : State) (start : Pos) (r : SetRec) : State :=
  if s.slitter.awaited.isSome then { s with slitter := { s.slitter with awaited := some r } }
  else
    match s.slitter.deferred with
    | some d => { s with slitter := { s.slitter with deferred := some { d with set := r } } }
    | none =>
      if s.slitter.carried r then (match s.slitter.engaged with | some e => s.takeId e r.id | none => s)
      else { s with slitter := { s.slitter with deferred := some { start := start, set := r } } }

/-- R68: N's trigger is taken. -/
def State.trigger (s : State) (start : Pos) (r : SetRec) : State :=
  if s.gov.mode = .estopped then s.triggerEstopped start r
  else
    match s.slitter.awaited with
    | some w => s.triggerAwaited w r
    | none =>
      if s.slitter.carried r then (match s.slitter.engaged with | some e => s.takeId e r.id | none => s)
      else
        match s.readyStandby r with
        | some st => s.readySwap st
        | none => s.lateSwap start r none

/-- R78: what marks the SLITTER condition changed, the limit apart. -/
def Slitter.marks (p : Slitter) : StationState × StationState × Bool × Bool :=
  (p.stationA.state, p.stationB.state, p.awaited.isSome, p.deferred.isSome)

/-- R78: mark the SLITTER condition when a station state or a flag has changed. -/
def State.slitMarked (s t : State) : State := t.markIf (!decide (s.slitter.marks = t.slitter.marks)) srcSlitter

/-- R66: the window start of N is reached. -/
def State.takeSlitWindow (s : State) : State :=
  if s.slitter.next.isSome then { s with slitter := { s.slitter with inWindow := true } } else s

/-- R68: the trigger of N is reached. -/
def State.takeSlitTrigger (s : State) : State :=
  match s.heldNext with
  | none => s
  | some o =>
    let s1 := { s with slitter := { s.slitter with running := some o.spec.id, inWindow := false } }
    s.slitMarked (s1.trigger o.start (OrderSpec.set o.spec)).refreshNext

/-- R66, R42: an order change reaches the pair. -/
def State.slitOrderChange (s : State) : State := s.slitMarked s.refreshNext

/-- R65, R70: SET DONE. -/
def State.takeSetDone (s : State) (st : Station) : State :=
  if s.stationState st = .setting then
    let s1 := s.updStation st (fun x => { x with state := .ready, timer := none })
    s.slitMarked
      (if s.slitter.awaited.isSome ∧ s.slitter.incoming = some st ∧ s.slitActs then (s1.engageFor st).setStandby else s1)
  else s

/-- R65: the set timer expires. -/
def State.takeSetExpiry (s : State) (st : Station) : State :=
  if s.stationState st = .setting then
    let s1 := s.updStation st (fun x => { x with state := .fault, timer := none })
    s.slitMarked
      (match s.slitter.awaited with
       | some w =>
         if s.slitter.incoming = some st then
           let other := Station.other st
           if s1.stationState other ≠ .engaged ∧ s1.stationState other ≠ .fault then
             { s1 with slitter := { s1.slitter with incoming := some other } }.load other w
           else { s1 with slitter := { s1.slitter with incoming := none } }
         else s1
       | none => s1)
  else s

/-! ### Emergency stop and resume (section 4.6) -/

/-- R73: at ESTOP a SETTING station enters IDLE. -/
def State.stopSetting (s : State) (st : Station) : State :=
  if s.stationState st = .setting then s.updStation st StationRec.toIdle else s

/-- R74: act on a deferred swap when the mode leaves ESTOPPED. A READY standby that engages keeps the id in its set record, also
where a later order was carried into the deferred swap (DESIGN CHOICE, log 43). -/
def State.takeDeferred (s : State) : State :=
  match s.slitter.deferred with
  | none => s
  | some d =>
    let s1 := { s with slitter := { s.slitter with deferred := none } }
    let ready := s1.readyStandby d.set
    if isBeyond (s.triggerOf d.start) s.tracker.pos then s1.lateSwap d.start d.set ready
    else
      match ready with
      | some st => s1.readySwap st
      | none => s1.lateSwap d.start d.set none

/-- R74: an incoming station left IDLE loads the awaited set. -/
def State.loadAwaited (s : State) : State :=
  match s.slitter.awaited, s.slitter.incoming with
  | some w, some i => if s.stationState i = .idle then s.load i w else s
  | _, _ => s

/-- R66, R73, R74: a line mode is entered. R66 is followed at the entry to STOPPED from HALTED too, where R77 says that RESUME
changes nothing in the pair (DESIGN CHOICE, log 44). -/
def State.slitModeEntry (s : State) (before after : Mode) : State :=
  if after = .estopped then s.slitMarked ((s.stopSetting .a).stopSetting .b).setStandby
  else if after = .unconfigured then s
  else if before = .estopped then s.slitMarked s.takeDeferred.loadAwaited.refreshNext
  else s.slitMarked s.refreshNext

/-! ### The SLITTER limit (R72) -/

/-- R72: a station is READY with a set. -/
def State.isReadyWith (s : State) (r : SetRec) : Bool := s.holdsIn .a r .ready || s.holdsIn .b r .ready

/-- R72: the SLITTER limit. -/
def State.slitterLimit (s : State) : Option Nat :=
  if s.gov.mode = .unconfigured then none
  else if s.slitter.awaited.isSome ∨ s.slitter.deferred.isSome then some 0
  else
    match s.heldNext with
    | none => none
    | some o =>
      let r := OrderSpec.set o.spec
      if s.slitter.inWindow ∧ !s.slitter.carried r ∧ !s.isReadyWith r then some 0 else none

/-! ### Requests (section 4.7) -/

/-- R75: CLEAR_STATION. A code other than A or B is BAD_VALUE in UNCONFIGURED too (DESIGN CHOICE, log 48). -/
def State.reqClearStation (s : State) (code : Nat) : State × Reply :=
  match Station.ofCode code with
  | none => (s, .just .badValue)
  | some st =>
    if s.gov.mode = .unconfigured ∨ s.stationState st ≠ .fault then (s, .just .wrongMode)
    else
      let s1 := s.updStation st StationRec.toIdle
      let s2 :=
        match s.slitter.awaited, s.slitter.incoming with
        | some w, none => { s1 with slitter := { s1.slitter with incoming := some st } }.load st w
        | _, _ => s1.setStandby
      (s.slitMarked s2, .okWith (u8 (Station.code st) ++ u8 (StationState.code .idle)))

/-- A station as READ_SLITTER gives it. -/
def State.encStation (s : State) (k : Nat) (st : Station) : List Byte :=
  let r := s.slitter.station st
  u8 r.state.code ++ encOpt SetRec.enc r.set ++ encOpt (fun t => u32 (s.timeLeft k (t * 1000))) r.timer

/-- R76: READ_SLITTER. -/
def State.reqReadSlitter (s : State) : State × Reply :=
  let p := s.slitter
  (s.spendChoice 2,
   .okWith (s.encStation 0 .a ++ s.encStation 1 .b ++ encOpt u32 p.running ++ encOpt u32 (p.next.map (·.1)) ++
     encBool (match s.heldNext with | some o => p.onLine (OrderSpec.set o.spec) | none => false) ++
     encOpt u32 (p.lineSet.map (·.id)) ++
     encOpt encPos (p.next.map (fun x => s.windowStart x.2)) ++ encOpt encPos (p.next.map (fun x => s.triggerOf x.2)) ++
     encBool p.inWindow ++ encBool p.awaited.isSome ++ encOpt u32 (p.awaited.map (·.id)) ++
     encOpt (fun i => u8 (Station.code i)) p.incoming ++ encBool p.deferred.isSome ++
     encOpt encPos (p.deferred.map (·.start)) ++ encOpt u32 (p.deferred.map (fun d => d.set.id)) ++
     encSpeed s.limits.slitter))

/-- R78: the data of a SLITTER notice. -/
def State.slitterView (s : State) : List Byte :=
  let p := s.slitter
  u8 p.stationA.state.code ++ u8 p.stationB.state.code ++ encOpt u32 (p.stationA.set.map (·.id)) ++
    encOpt u32 (p.stationB.set.map (·.id)) ++ encOpt u32 (p.awaited.map (·.id)) ++
    encOpt u32 (p.deferred.map (fun d => d.set.id)) ++ encSpeed s.limits.slitter

end Sys2Proof.Machine
end

