-- ==== Sys2Proof/Machine/Stack.lean ====
section
/-! DEFINITION. The reject gate and the Stacker (chapter 5): the sheet train, placing sheets, closing and transferring stacks,
the end of an order, the STACKER limit and READ_STACKER. -/

namespace Sys2Proof.Machine

/-- The stack size of an active order (R82). -/
def State.stackSize (s : State) (id : Nat) : Nat := match s.order? id with | some o => o.spec.stackSize | none => 0

/-- R82: the finger capacity for an order. -/
def State.fingerRoom (s : State) (id : Nat) : Nat := min 40 (s.stackSize id)

/-- R82: the finger count. -/
def Stacker.fingerCount (k : Stacker) : Nat := match k.fingers with | some r => r.allotted | none => 0

/-- R80: the oldest record marked ahead. -/
def Stacker.oldestAhead (k : Stacker) : Option TrainRec := k.train.find? (fun r => decide (r.mark = .ahead))

/-- R80: the oldest record marked passed. -/
def Stacker.oldestPassed (k : Stacker) : Option TrainRec := k.train.find? (fun r => !decide (r.mark = .ahead))

/-- R80: keep the gate registration at the oldest record ahead, after that record has changed. -/
def State.followGate (s : State) : State :=
  match s.stacker.oldestAhead with
  | some r => s.register .gate (r.sheet.stop.plus s.dGate)
  | none => s.withdraw .gate

/-- R80: keep the stacker registration at the oldest passed record, after that record has changed. -/
def State.followStack (s : State) : State :=
  match s.stacker.oldestPassed with
  | some r => s.register .stackPoint (r.sheet.stop.plus s.dStack)
  | none => s.withdraw .stackPoint

/-- R80: a sheet record joins the train. -/
def State.takeSheet (s : State) (r : Sheet) : State :=
  let s1 := { s with stacker := { s.stacker with train := s.stacker.train ++ [{ sheet := r, mark := .ahead }] } }
  if s.stacker.oldestAhead.isNone then s1.followGate else s1

/-! ### Closing, transfers and the end of an order (sections 5.4, 5.5) -/

/-- R88: no record marked passed for an order is in the train. -/
def Stacker.noneInFlight (k : Stacker) (id : Nat) : Bool :=
  k.train.all (fun r => match r.mark with | .passed o _ => !decide (o = id) | .ahead => true)

/-- R88: the test for an order's end report. -/
def State.endTest (s : State) (id : Nat) : State :=
  let k := s.stacker
  let openTable := match k.table with | some r => decide (r.id = id) && !r.closed | none => false
  let onFingers := match k.fingers with | some r => decide (r.id = id) | none => false
  if decide (id ∈ k.finalList) && k.noneInFlight id && !openTable && !onFingers then
    { s with stacker := { k with finalList := k.finalList.filter (fun x => !decide (x = id)) } }.post (.endReport id)
  else s

/-- R85, R87: a closed table record starts its transfer, or the stacker is BLOCKED. -/
def State.startTransfer (s : State) : State :=
  if s.gov.mode ≠ .estopped ∧ s.stacker.out.length < Config.conveyorRoom then
    { s with stacker := { s.stacker with mode := .transferring, transfer := true } }
  else { s with stacker := { s.stacker with mode := .blocked, transfer := false } }

/-- R85: test the table record for closing; a close is reported and its order tested for its end (R88). -/
def State.tryClose (s : State) : State :=
  match s.stacker.table with
  | none => s
  | some r =>
    let size := s.stackSize r.id
    if !r.closed && decide (r.landed = r.allotted) && (decide (r.allotted = size) || r.lastFlag) then
      let s1 := { s with stacker := { s.stacker with
                    table := some { r with closed := true, short := decide (r.landed < size) } } }
      ((s1.post (.stackReport r.id)).startTransfer).endTest r.id
    else s

/-- R93: what marks the STACKER condition changed, the limit apart. -/
def Stacker.marks (k : Stacker) : StackerState × Nat := (k.mode, k.out.length)

/-- R93: mark the STACKER condition when its state or the number of out-conveyor entries has changed. -/
def State.stackMarked (s t : State) : State := t.markIf (!decide (s.stacker.marks = t.stacker.marks)) srcStacker

/-! ### The gate (section 5.3) -/

/-- R82: a new stack record for an order takes the next number and one sheet. -/
def Stacker.newStack (k : Stacker) (id : Nat) : StackRec :=
  let number := match k.lastStarted with | some x => if x.1 = id then x.2 + 1 else 1 | none => 1
  { id := id, number := number, allotted := 1, landed := 0, lastFlag := false, closed := false, short := false }

/-- R82: a record takes one more sheet of an order. -/
def StackRec.takes (r : StackRec) (id room : Nat) : Bool :=
  !r.closed && decide (r.id = id) && !r.lastFlag && decide (r.allotted < room)

/-- R82: place a GOOD sheet of an order; answers the record it is allotted to, or none. -/
def State.place (s : State) (id : Nat) : Stacker × Option (Nat × Nat) :=
  let k := s.stacker
  let fresh := k.newStack id
  let onFingers : Stacker × Option (Nat × Nat) :=
    match k.fingers with
    | none => ({ k with fingers := some fresh, lastStarted := some (id, fresh.number) }, some (id, fresh.number))
    | some f =>
      if f.takes id (s.fingerRoom id) then
        ({ k with fingers := some { f with allotted := f.allotted + 1 } }, some (id, f.number))
      else (k, none)
  match k.table with
  | none => ({ k with table := some fresh, lastStarted := some (id, fresh.number) }, some (id, fresh.number))
  | some t =>
    if t.takes id (s.stackSize id) then
      ({ k with table := some { t with allotted := t.allotted + 1 } }, some (id, t.number))
    else onFingers

/-- R83: set the last flag on an order's newest stack record. -/
def Stacker.setLast (k : Stacker) (id : Nat) : Stacker :=
  let onTable :=
    match k.table with
    | some t => if t.id = id then { k with table := some { t with lastFlag := true } } else k
    | none => k
  match k.fingers with
  | some f => if f.id = id then { k with fingers := some { f with lastFlag := true } } else onTable
  | none => onTable

/-- R83: a final entry: the order's last grid sheet has reached the gate. -/
def State.takeFinal (s : State) (id : Nat) : State :=
  let k := s.stacker.setLast id
  let s1 := { s with stacker := { k with finalList := k.finalList ++ [id] } }
  s1.tryClose.endTest id

/-- R83: the final entries of a cover list in its order. -/
def State.takeFinals (s : State) (l : List Cover) : State :=
  s.each (l.filter (fun c => c.final)) (fun c t => t.takeFinal c.id)

/-- Replace the oldest record marked ahead: by nothing, or by itself with a mark. -/
def replaceAhead (new : Option GateMark) : List TrainRec → List TrainRec
  | [] => []
  | r :: l =>
    if r.mark = .ahead then (match new with | none => l | some m => { r with mark := m } :: l)
    else r :: replaceAhead new l

/-- The gate output is set and the record leaves the train. -/
def State.divertSheet (s : State) : State :=
  { s with stacker := { s.stacker with divert := true, train := replaceAhead none s.stacker.train } }

/-- R81: the gate decides on a sheet. -/
def State.gateDecide (s : State) (r : Sheet) : State :=
  match r.cls, r.covers with
  | .good, c :: _ =>
    let placed := s.place c.id
    match placed.2 with
    | some x =>
      let first := s.stacker.oldestPassed.isNone
      let s1 := { s with stacker := { placed.1 with
                    divert := false, train := replaceAhead (some (.passed x.1 x.2)) placed.1.train } }
      if first then s1.followStack else s1
    | none => s.divertSheet.post (.overflowReport c.id)
  | _, _ => s.divertSheet

/-- R81: a sheet arrives at the gate. -/
def State.takeGate (s : State) : State :=
  match s.stacker.oldestAhead with
  | none => s
  | some r => s.stackMarked (((s.gateDecide r.sheet).takeFinals r.sheet.covers).followGate)

/-! ### Landings and inputs (section 5.4) -/

/-- R84: the landed count of the record named rises. -/
def Stacker.land (k : Stacker) (id number : Nat) : Stacker :=
  let up := fun (r : StackRec) =>
    if r.id = id ∧ r.number = number then { r with landed := r.landed + 1 } else r
  { k with table := k.table.map up, fingers := k.fingers.map up }

/-- The oldest passed record leaves the train. -/
def dropPassed : List TrainRec → List TrainRec
  | [] => []
  | r :: l => if r.mark = .ahead then r :: dropPassed l else l

/-- R84: a passed sheet lands. -/
def State.takeLanding (s : State) : State :=
  match s.stacker.oldestPassed with
  | none => s
  | some r =>
    match r.mark with
    | .ahead => s
    | .passed id number =>
      let k := s.stacker.land id number
      let s1 := { s with stacker := { k with train := dropPassed k.train } }.post (.goodReport id)
      let onTable := match s.stacker.table with | some t => decide (t.id = id ∧ t.number = number) | none => false
      let s2 := if onTable then s1.tryClose else s1
      s.stackMarked (s2.endTest id).followStack

/-- R86: TRANSFER DONE. -/
def State.takeTransferDone (s : State) : State :=
  match s.stacker.mode, s.stacker.table with
  | .transferring, some t =>
    let e : OutEntry := { id := t.id, number := t.number, count := t.landed, short := t.short }
    let k := s.stacker
    let out := k.out ++ [e]
    let s1 := { s with stacker := { k with
                  transfer := false, out := out, table := k.fingers, fingers := none, mode := .building } }
    let s2 := (s1.raise srcStackOut (.stackOut e out.length)).tryClose
    s.stackMarked (match k.fingers with | some f => s2.endTest f.id | none => s2)
  | _, _ => s

/-- R87: STACK TAKEN. -/
def State.takeStackTaken (s : State) : State :=
  match s.stacker.out with
  | [] => s
  | _ :: l =>
    let s1 := { s with stacker := { s.stacker with out := l } }
    s.stackMarked (if s.stacker.mode = .blocked ∧ s.gov.mode ≠ .estopped then s1.startTransfer else s1)

/-- R90, R91: a line mode is entered. -/
def State.stackModeEntry (s : State) (before after : Mode) : State :=
  s.stackMarked
    (if after = .estopped then
      (if s.stacker.mode = .transferring then
        { s with stacker := { s.stacker with mode := .blocked, transfer := false } }
      else s)
    else if before = .estopped ∧ s.stacker.mode = .blocked then s.startTransfer
    else s)

/-! ### The STACKER limit (R89) -/

/-- R89: the finger record takes no further sheet. -/
def State.fingersFull (s : State) : Bool :=
  match s.stacker.fingers with
  | some f => decide (f.allotted = s.fingerRoom f.id) || f.lastFlag
  | none => false

/-- R89: the STACKER limit. -/
def State.stackerLimit (s : State) : Option Nat :=
  let warn := decide (s.dry.fingerWarn ≤ s.stacker.fingerCount)
  if s.gov.mode = .unconfigured then none
  else if s.fingersFull || (decide (s.stacker.mode = .blocked) && warn) then some 0
  else if warn then some s.govCfg.crawlSpeed
  else none

/-! ### What the host sees (section 5.8) -/

/-- A stack record as READ_STACKER gives it. -/
def StackRec.enc (r : StackRec) : List Byte :=
  u32 r.id ++ u32 r.number ++ u16 r.allotted ++ u16 r.landed ++ encBool r.lastFlag ++ encBool r.closed

/-- A train record as READ_STACKER gives it: the gate mark is 0 ahead, or 1 and the stack record it names (log 13). -/
def TrainRec.enc (r : TrainRec) : List Byte :=
  encPos r.sheet.start ++ encPos r.sheet.stop ++ u8 r.sheet.cls.code ++ encList Cover.enc r.sheet.covers ++
    (match r.mark with | .ahead => u8 0 | .passed id k => u8 1 ++ u32 id ++ u32 k)

/-- R92: READ_STACKER. -/
def State.reqReadStacker (s : State) : State × Reply :=
  let k := s.stacker
  (s, { status := .ok,
        fields :=
          [.raw (u8 k.mode.code ++ encBool k.transfer ++ encOpt StackRec.enc k.table ++ encOpt StackRec.enc k.fingers ++
              u8 k.fingerCount ++ encSpeed s.limits.stacker),
           .list (k.out.map OutEntry.enc), .list (k.train.map TrainRec.enc), .list (k.finalList.map u32)] })

/-- R93: the data of a STACKER notice. -/
def State.stackerView (s : State) : List Byte :=
  let k := s.stacker
  u8 k.mode.code ++ u8 k.fingerCount ++ u8 k.out.length ++ encSpeed s.limits.stacker

end Sys2Proof.Machine
end

