-- ==== Sys2Proof/Machine/Reels.lean ====
section
/-! DEFINITION. The Reel Stands (chapter 6): roll states, remaining length, expiry, web losses, the Sequencer's reports, the
RESERVE limit and the stand requests. -/

namespace Sys2Proof.Machine

/-! ### Arms -/

/-- The roll on an arm. -/
def StandRec.arm (r : StandRec) : Arm → Option Roll
  | .a => r.armA
  | .b => r.armB

/-- Replace the roll on an arm. -/
def StandRec.setArm (r : StandRec) (m : Arm) (x : Option Roll) : StandRec :=
  match m with
  | .a => { r with armA := x }
  | .b => { r with armB := x }

/-- An arm holds a RUNNING roll. -/
def StandRec.runsOn (r : StandRec) (m : Arm) : Bool := match r.arm m with | some x => decide (x.state = .running) | none => false

/-- R95: the running arm. -/
def StandRec.running (r : StandRec) : Option Arm := if r.runsOn .a then some .a else if r.runsOn .b then some .b else none

/-- R95: the standby arm, present when a running arm is. -/
def StandRec.standby (r : StandRec) : Option Arm := r.running.map Arm.other

/-- The RUNNING roll. -/
def StandRec.runningRoll (r : StandRec) : Option Roll := r.running.bind r.arm

/-- Change a stand. -/
def State.updStand (s : State) (n : Stand) (f : StandRec → StandRec) : State := s.setStand n (f (s.stand n))

/-- Change the roll on an arm, if any. -/
def StandRec.updArm (r : StandRec) (m : Arm) (f : Roll → Roll) : StandRec := r.setArm m ((r.arm m).map f)

/-- A roll becomes RUNNING; its crossings of RESERVE and MIN_RUN are yet to come (R110, log 19). -/
def Roll.run (x : Roll) : Roll := { x with state := .running, reserveSeen := false, minRunSeen := false }

/-- A RUNNING roll becomes EXPIRED. -/
def Roll.spend (x : Roll) : Roll := if x.state = .running then { x with state := .expired } else x

/-- The board the web of a stand joins now: E + D_STAND (section 6.1). -/
def State.boardAt (s : State) (n : Stand) : Pos := s.tracker.pos.plus (s.dStand n)

/-! ### The STANDS condition (R110) -/

/-- R110: what marks the STANDS condition changed, crossings and the limit apart. -/
def StandRec.marks (r : StandRec) : Option RollState × Option RollState × Bool :=
  (r.armA.map (·.state), r.armB.map (·.state), r.fault.isSome)

/-- R110: mark the STANDS condition when a roll state or a stand state has changed. -/
def State.standsMarked (s t : State) : State :=
  t.markIf (allStands.any (fun n => !decide ((s.stand n).marks = (t.stand n).marks))) srcStands

/-! ### Expiry (R100) -/

/-- The modes in which expiry is raised (R100) and a paste may start (R120): RUNNING and STOPPING. -/
def State.lineMoves (s : State) : Bool := decide (s.gov.mode = .running) || decide (s.gov.mode = .stopping)

/-- R100: a stand in DUE raises expiry in RUNNING or STOPPING, unless FAULTED. -/
def State.raiseExpiry (s : State) (n : Stand) : State :=
  if (s.stand n).expiry = .due ∧ (s.stand n).fault = none ∧ s.lineMoves then
    (s.updStand n (fun r => { r with expiry := .raised })).post (.expiry n)
  else s

/-- R100: the expiry test of a stand. -/
def State.testExpiry (s : State) (n : Stand) : State :=
  let r := s.stand n
  match r.runningRoll with
  | none => s
  | some x =>
    if x.remaining ≤ (s.standCfg n).reserve ∧ r.fault = none ∧ r.expiry = .notDue then
      (s.updStand n (fun q => { q with expiry := .due })).raiseExpiry n
    else s

/-- R100: expiry returns to NOT_DUE and the RUNNING roll is tested. -/
def State.freshExpiry (s : State) (n : Stand) : State :=
  (s.updStand n (fun r => { r with expiry := .notDue })).testExpiry n

/-! ### Web losses (R102) -/

/-- R95: a stand enters FAULTED with a cause, or keeps its first. -/
def StandRec.faultWith (r : StandRec) (c : FaultCause) : StandRec := { r with fault := some (r.fault.getD c) }

/-- The halt cause of a web loss. -/
def FaultCause.halt : FaultCause → HaltCause
  | .runOut => .runOut
  | .cutFail => .cutFail
  | _ => .webLost

/-- R102: a web loss at a stand that has a RUNNING roll. -/
def State.webLoss (s : State) (n : Stand) (cause : FaultCause) : State :=
  match (s.stand n).running with
  | none => s
  | some m =>
    let s1 := s.updStand n (fun r => { (r.updArm m Roll.spend).faultWith cause with breakFlag := true })
    let p := s.boardAt n
    let s2 := (s1.closeSpan (.stand n) p).openSpan .webBreak (.stand n) p
    (s2.post (.webLoss n)).post (.halt n cause.halt)

/-- The WEB LOST input. -/
def State.takeWebLost (s : State) (n : Stand) : State := s.standsMarked (s.webLoss n .webLost)

/-! ### Drawing (R98) -/

/-- CPM × 1,000: what the accumulator gives up at a decrement. -/
def State.drawUnit (s : State) : Nat := s.cpm * 1000

/-- R98: the accumulator after a step, before any subtraction. -/
def State.drawn (s : State) (n : Stand) (x : Roll) : Nat := x.acc + (s.standCfg n).takeup

/-- R98: a stand's RUNNING roll is due a decrement at this step. -/
def State.dueDecrement (s : State) (n : Stand) : Bool :=
  match (s.stand n).runningRoll with
  | none => false
  | some x => decide (s.drawUnit ≤ s.drawn n x)

/-- R98: a step of E draws a RUNNING roll that is not due a decrement. -/
def State.drawStand (n : Stand) (s : State) : State :=
  match (s.stand n).running with
  | none => s
  | some m =>
    if s.dueDecrement n then s
    else s.updStand n (fun r => r.updArm m (fun x => { x with acc := s.drawn n x }))

/-- R98: a decrement of a RUNNING roll, with the threshold tests (R100, R110, R119) and the run-out (R102). -/
def State.takeDecrement (s : State) (n : Stand) : State :=
  match (s.stand n).running, (s.stand n).runningRoll with
  | some m, some x =>
    let c := s.standCfg n
    let left := x.remaining - 1
    let atReserve := decide (left ≤ c.reserve)
    let atMinRun := decide (left ≤ c.minRun)
    let x1 := { x with
      remaining := left, acc := s.drawn n x - s.drawUnit, reserveSeen := x.reserveSeen || atReserve,
      minRunSeen := x.minRunSeen || atMinRun }
    let s1 := s.updStand n (fun r => r.setArm m (some x1))
    let s2 := s1.markIf ((atReserve && !x.reserveSeen) || (atMinRun && !x.minRunSeen)) srcStands
    let s3 := s2.testExpiry n
    let s4 := if atMinRun then s3.post (.minRun n) else s3
    s.standsMarked (if left = 0 then s4.webLoss n .runOut else s4)
  | _, _ => s

/-! ### Reports from the Splice Sequencer (R103) -/

/-- R103: roll change. -/
def State.rollChange (s : State) (n : Stand) (m : Arm) : State :=
  s.standsMarked
    ((s.updStand n (fun r => (r.updArm (Arm.other m) Roll.spend).updArm m Roll.run)).freshExpiry n)

/-- R103: tape spent. -/
def State.tapeSpent (s : State) (n : Stand) (m : Arm) : State :=
  s.standsMarked
    (s.updStand n (fun r => r.updArm m (fun x => if x.state = .ready then { x with state := .loaded } else x)))

/-- R103: stand fault. -/
def State.standFault (s : State) (n : Stand) (c : FaultCause) : State :=
  s.standsMarked (s.updStand n (fun r => r.faultWith c))

/-- R100: a line mode is entered: DUE stands raise expiry in RUNNING and STOPPING. -/
def State.standsModeEntry (s : State) : State :=
  if s.lineMoves then s.each allStands (fun n t => t.raiseExpiry n) else s

/-- R99: an accepted STANDS section: every expiry is tested, and an untriggered PLANNED sequence takes it (R119). -/
def State.standsAccepted (s : State) : State :=
  s.each allStands (fun n t => (t.testExpiry n).post (.minRun n))

/-! ### The RESERVE limit (R101) -/

/-- R101: a stand's sequence is in PASTE, CUT or TRANSFER. -/
def SpliceRec.splicing (r : SpliceRec) : Bool := match r.seq with | some q => !decide (q.stage = .armed) | none => false

/-- R101: a stand holds the RESERVE limit at 0. -/
def State.reserveHeld (s : State) (n : Stand) : Bool :=
  match (s.stand n).runningRoll with
  | some x => decide (x.remaining ≤ (s.standCfg n).minRun) && !(s.spl n).splicing
  | none => false

/-- R101: the RESERVE limit. -/
def State.reserveLimit (s : State) : Option Nat :=
  if s.gov.mode = .unconfigured then none else if allStands.any s.reserveHeld then some 0 else none

/-! ### Requests (section 6.7) -/

/-- Section 6.7: the two checks before every stand request with an arm: the stand and arm first, then the mode (DESIGN CHOICE,
log 48). -/
def State.standCheck (s : State) (stand arm : Nat) : Except Status (Stand × Arm) :=
  match Stand.ofNumber stand, Arm.ofCode arm with
  | some n, some m => if s.gov.mode = .unconfigured then .error .wrongMode else .ok (n, m)
  | _, _ => .error .badValue

/-- R104: the ranges of the supplied roll fields. -/
def RollSpec.inRange (r : RollSpec) : Bool :=
  decide (1 ≤ r.id) && decide (r.id < 4294967296) && decide (r.kind ≤ 255) && decide (500 ≤ r.width) &&
  decide (r.width ≤ 3000) && decide (300 ≤ r.diameter) && decide (r.diameter ≤ 2000) && decide (70 ≤ r.core) &&
  decide (r.core ≤ 200) && decide (r.core < r.diameter) && decide (100 ≤ r.caliper) && decide (r.caliper ≤ 800)

/-- R97: the remaining length of a roll at loading. -/
def RollSpec.length (r : RollSpec) : Nat := 355 * (r.diameter ^ 2 - r.core ^ 2) / (452 * r.caliper)

/-- A roll id is held in an arm slot. -/
def State.rollHeld (s : State) (id : Nat) : Bool :=
  allStands.any (fun n =>
    [(s.stand n).armA, (s.stand n).armB].any (fun x => match x with | some r => decide (r.spec.id = id) | none => false))

/-- R104: a roll as it is loaded. -/
def RollSpec.loaded (r : RollSpec) : Roll :=
  { spec := r, state := .loaded, remaining := RollSpec.length r, acc := 0, reserveSeen := false, minRunSeen := false }

/-- R104: LOAD_ROLL. -/
def State.reqLoadRoll (s : State) (stand arm : Nat) (r : RollSpec) : State × Reply :=
  match s.standCheck stand arm with
  | .error e => (s, .just e)
  | .ok (n, m) =>
    if !RollSpec.inRange r then (s, .just .badValue)
    else if s.rollHeld r.id then (s, .just .duplicate)
    else if ((s.stand n).arm m).isSome then (s, .just .busy)
    else
      (s.standsMarked (s.updStand n (fun q => q.setArm m (some (RollSpec.loaded r)))),
       .okWith (u8 (Stand.number n) ++ u8 (Arm.code m) ++ u32 r.id ++ u16 (RollSpec.length r)))

/-- R105: a LOADED roll on an arm becomes READY, and the Sequencer takes it (R127). -/
def State.makeReady (s : State) (n : Stand) (m : Arm) : State :=
  match (s.stand n).arm m with
  | some x =>
    if x.state = .loaded then
      s.standsMarked ((s.updStand n (fun r => r.setArm m (some { x with state := .ready }))).post (.rollReady n))
    else s
  | none => s

/-- R105: MARK_READY. -/
def State.reqMarkReady (s : State) (stand arm : Nat) : State × Reply :=
  match s.standCheck stand arm with
  | .error e => (s, .just e)
  | .ok (n, m) =>
    match (s.stand n).arm m with
    | none => (s, .just .notReady)
    | some x =>
      if x.state = .running ∨ x.state = .expired then (s, .just .wrongMode) else (s.makeReady n m, .just .ok)

/-- R105: the PREPARED input. -/
def State.takePrepared (s : State) (n : Stand) : State :=
  match (s.stand n).standby with | some m => s.makeReady n m | none => s

/-- R106: UNLOAD_ROLL. -/
def State.reqUnloadRoll (s : State) (stand arm : Nat) : State × Reply :=
  match s.standCheck stand arm with
  | .error e => (s, .just e)
  | .ok (n, m) =>
    match (s.stand n).arm m with
    | none => (s, .just .notFound)
    | some x =>
      if x.state = .running then (s, .just .wrongMode)
      else if x.state = .ready ∧ (s.stand n).standby = some m ∧ (s.spl n).seq.isSome then (s, .just .inUse)
      else (s.standsMarked (s.updStand n (fun r => r.setArm m none)), .just .ok)

/-- R107: THREAD. -/
def State.reqThread (s : State) (stand arm : Nat) : State × Reply :=
  match s.standCheck stand arm with
  | .error e => (s, .just e)
  | .ok (n, m) =>
    if s.gov.mode ≠ .stopped then (s, .just .wrongMode)
    else if (s.stand n).running.isSome then (s, .just .busy)
    else
      match (s.stand n).arm m with
      | none => (s, .just .notReady)
      | some x =>
        if x.remaining = 0 then (s, .just .notReady)
        else
          (s.standsMarked ((s.updStand n (fun r => r.updArm m Roll.run)).freshExpiry n),
           .okWith (u8 (Stand.number n) ++ u8 (Arm.code m) ++ u32 x.spec.id ++ u16 x.remaining))

/-- The state of an arm as a field: EMPTY is 4. -/
def encArmState (x : Option Roll) : List Byte := u8 (match x with | some r => RollState.code r.state | none => 4)

/-- The state of a stand as a field: OPERATING 0, FAULTED 1. -/
def encStandState (r : StandRec) : List Byte := u8 (if r.fault.isSome then 1 else 0)

/-- R108 step 1: the named arm becomes the running arm. -/
def StandRec.makeRunning (r : StandRec) (m : Arm) : StandRec :=
  if r.runsOn m then r else (r.updArm (Arm.other m) Roll.spend).updArm m Roll.run

/-- R108: the actions of CLEAR_STAND. -/
def State.clearStand (s : State) (n : Stand) (m : Option Arm) : State :=
  let s1 := match m with | some x => s.updStand n (fun r => r.makeRunning x) | none => s
  let s2 := s1.closeSpan (.stand n) (s.boardAt n)
  let s3 := s2.updStand n (fun r => { r with breakFlag := false, fault := none })
  s.standsMarked ((s3.post (.cleared n)).freshExpiry n)

/-- R108: CLEAR_STAND. A stand or arm outside its values is BAD_VALUE in UNCONFIGURED too (DESIGN CHOICE, log 48). -/
def State.reqClearStand (s : State) (stand : Nat) (arm : Option Nat) : State × Reply :=
  match Stand.ofNumber stand, arm, arm.bind Arm.ofCode with
  | none, _, _ => (s, .just .badValue)
  | some _, some _, none => (s, .just .badValue)
  | some n, _, m =>
    let r := s.stand n
    if s.gov.mode = .unconfigured then (s, .just .wrongMode)
    else if r.fault = none then (s, .just .wrongMode)
    else if m.isSome ∧ s.lineMoves then (s, .just .wrongMode)
    else if (match m with
             | some x => (match r.arm x with | some y => decide (y.remaining = 0) | none => true)
             | none => false) then (s, .just .notReady)
    else
      let s1 := s.clearStand n m
      let q := s1.stand n
      (s1, .okWith (encStandState q ++ encArmState q.armA ++ encArmState q.armB))

/-- An arm as READ_STAND gives it: the state code with EMPTY, and a presence byte, come before the other fields of the roll record, where
the table of section 6.2 has State after the caliper (DESIGN CHOICE, log 13). -/
def encArm (x : Option Roll) : List Byte :=
  encArmState x ++ encOpt (fun r => RollSpec.enc r.spec ++ u16 r.remaining ++ u32 r.acc) x

/-- R109: READ_STAND. With no RUNNING roll neither threshold reads as reached (DESIGN CHOICE, log 13). -/
def State.reqReadStand (s : State) (stand : Nat) : State × Reply :=
  match Stand.ofNumber stand with
  | none => (s, .just .badValue)
  | some n =>
    let r := s.stand n
    let c := s.cfg.stands.map (fun v => tget v n)
    let below := fun (t : Nat) => match r.runningRoll with | some x => decide (x.remaining ≤ t) | none => false
    (s, .okWith (encStandState r ++ encOpt (fun x => u8 (FaultCause.code x)) r.fault ++ encBool r.breakFlag ++
      u8 r.expiry.code ++ encArm r.armA ++ encArm r.armB ++ encOpt (fun m => u8 (Arm.code m)) r.running ++
      encOpt (fun m => u8 (Arm.code m)) r.standby ++ encOpt u16 (c.map (·.takeup)) ++ encOpt u16 (c.map (·.reserve)) ++
      encOpt u8 (c.map (·.minRun)) ++ encOpt u32 (s.cfg.geometry.map (fun g => tget g.dStand n)) ++
      encBool (below (s.standCfg n).reserve) ++ encBool (below (s.standCfg n).minRun) ++ encSpeed s.limits.reserve))

/-- R110: the data of a STANDS notice. The RUNNING roll's id and remaining length are one optional pair with one presence byte
(DESIGN CHOICE, log 13). -/
def State.standsView (s : State) : List Byte :=
  allStands.flatMap (fun n =>
    let r := s.stand n
    encStandState r ++ encOpt (fun x => u8 (FaultCause.code x)) r.fault ++ encArmState r.armA ++ encArmState r.armB ++
      encOpt (fun x => u32 x.spec.id ++ u16 x.remaining) r.runningRoll) ++ encSpeed s.limits.reserve

end Sys2Proof.Machine
end

