-- ==== Sys2Proof/Machine/Splices.lean ====
section
/-! DEFINITION. The Splice Sequencer (chapter 7): plans and arming, trigger, stages, outcomes and waits, the SPLICE limits and
the splice requests. -/

namespace Sys2Proof.Machine

/-- Change the splice state of a stand. -/
def State.updSpl (s : State) (n : Stand) (f : SpliceRec → SpliceRec) : State := s.setSpl n (f (s.spl n))

/-- Change the sequence record of a stand, if any. -/
def State.updSeq (s : State) (n : Stand) (f : Seq → Seq) : State :=
  s.updSpl n (fun r => { r with seq := r.seq.map f })

/-- R114: a stand is free. -/
def State.isFree (s : State) (n : Stand) : Bool :=
  (s.spl n).seq.isNone && (s.stand n).fault.isNone && !decide (s.gov.mode = .estopped) &&
    !decide (s.gov.mode = .unconfigured)

/-- The stand's SPLICE or MISMATCH spans carry it as their source. -/
def srcOf (n : Stand) : Source := .stand n

/-- R126: open a MISMATCH span unless one is open for the stand; answers the span opened, its start as clamped and its reach, or none
where the map is left as it is (R124, log 22). -/
def State.openMismatchTell (s : State) (n : Stand) (p : Pos) : State × Option (Pos × Pos) :=
  if (s.spl n).mismatchOpen then (s, none)
  else
    let t := s.openSpan .mismatch (srcOf n) p
    (t.updSpl n (fun r => { r with mismatchOpen := true }),
     if t.map.spans = s.map.spans then none else some (clampStart s.tracker.pos p, s.boardAt n))

/-- R126: open a MISMATCH span unless one is open for the stand. -/
def State.openMismatch (s : State) (n : Stand) (p : Pos) : State := (s.openMismatchTell n p).1

/-- Close the stand's open MISMATCH span, if the Sequencer holds one open. -/
def State.closeMismatch (s : State) (n : Stand) (p : Pos) : State :=
  if (s.spl n).mismatchOpen then (s.closeSpan (srcOf n) p).updSpl n (fun r => { r with mismatchOpen := false }) else s

/-! ### Readiness (R118) -/

/-- R118: the roll on the standby arm suits a kind and a width order. -/
def State.suits (s : State) (x : Roll) (kind : Nat) (width : Option Nat) : Bool :=
  decide (x.state = .ready) && decide (x.spec.kind = kind) &&
    (match width.bind s.order? with | some o => decide (o.spec.width ≤ x.spec.width) | none => true)

/-- R118: the readiness check. -/
def State.isReady (s : State) (n : Stand) (kind : Nat) (width : Option Nat) : Bool :=
  match (s.stand n).standby with
  | none => false
  | some m => match (s.stand n).arm m with | some x => s.suits x kind width | none => false

/-- R118: the standby arm a sequence records; arm A where the stand has no running arm (log 22). -/
def State.standbyArm (s : State) (n : Stand) : Arm := (s.stand n).standby.getD .a

/-- R117: what the board now at the stand requires: the kind and the width order. -/
def State.boardNeeds (s : State) (n : Stand) : Nat × Option Nat :=
  let p := s.boardAt n
  let inside := fun (o : Order) => decide (0 ≤ o.start.ahead p) && isBeyond p o.stop
  match s.book.orders.find? inside with
  | some o => (match s.grade? o.spec.grade with | some g => tget g.kinds n | none => 0, some o.spec.id)
  | none => (match (s.stand n).runningRoll with | some x => x.spec.kind | none => 0, none)

/-! ### The end of a sequence (R124) -/

/-- R124: the data of the SPLICE_END of the sequence ending now. -/
def State.spliceEndOf (s : State) (n : Stand) (q : Seq) (o : SpliceOutcome) (laid : Option (Pos × Pos)) : SpliceEnd :=
  { stand := n, kind := q.kind, outcome := o, lateCancel := q.cancelReq, joint := q.joint, b := q.plan.map (·.b),
    mismatch := laid, standby := q.standby,
    rollId := (match (s.stand n).arm q.standby with | some x => x.spec.id | none => 0),
    failures := (s.spl n).failures }

/-- R124: a sequence ends; the stand then takes up owed work, for a cancelled one without step 2 of R114. -/
def State.endSeq (s : State) (n : Stand) (q : Seq) (o : SpliceOutcome) (laid : Option (Pos × Pos)) (withWait : Bool) :
    State :=
  let d := s.spliceEndOf n q o laid
  let s1 := s.updSpl n (fun r => { r with seq := none, pasteCmd := none, cutCmd := false, last := some d })
  (((s1.withdraw (.approach n)).withdraw (.spliceTrigger n)).raise (srcSpliceEnd n) (.spliceEnd d)).postFirst
    (.owedWork n withWait)

/-- R126, R128: the owed splice of a sequence that found no roll or spent its tape is kept as a wait; answers the MISMATCH span
opened, if any. -/
def State.keepOwed (s : State) (n : Stand) (q : Seq) : State × Option (Pos × Pos) :=
  match q.kind, q.plan with
  | .expiry, _ => (s.updSpl n (fun r => { r with wait := .expiry }), none)
  | _, some p =>
    let a := s.openMismatchTell n p.b
    (a.1.updSpl n (fun r => { r with wait := .plan p }), a.2)
  | _, none => (s, none)

/-- R124, R126, R128, R134: a sequence ends and what it owed is kept as a wait. -/
def State.endOwed (s : State) (n : Stand) (q : Seq) (o : SpliceOutcome) (withWait : Bool) : State :=
  let a := s.keepOwed n q
  a.1.endSeq n q o a.2 withWait

/-- A sequence carrying a plan leaves a wait PLAN (R129, R130, R132). -/
def State.keepPlan (s : State) (n : Stand) (q : Seq) : State :=
  match q.plan with
  | some p => s.updSpl n (fun r => { r with wait := .plan p })
  | none => s

/-- R126: a failed readiness check. -/
def State.endNoRoll (s : State) (n : Stand) (q : Seq) : State := s.endOwed n q .noReadyRoll true

/-! ### Trigger and stages (sections 7.4, 7.5) -/

/-- R121: PASTE starts. -/
def State.startPaste (s : State) (n : Stand) (q : Seq) : State :=
  s.updSpl n (fun r =>
    { r with
      pasteCmd := some q.standby,
      seq := some { q with stage := .paste, joint := some (s.boardAt n), triggered := false,
                           timer := some (s.standCfg n).tPaste } })

/-- R120: the paste-start test. -/
def State.pasteTest (s : State) (n : Stand) : State :=
  match (s.spl n).seq with
  | none => s
  | some q =>
    if q.stage = .armed ∧ q.triggered ∧ s.lineMoves ∧ s.tracker.measured ≤ s.govCfg.spliceSpeed then s.startPaste n q
    else s

/-- R119: the trigger of a sequence in ARMED. -/
def State.triggerSeq (s : State) (n : Stand) : State :=
  match (s.spl n).seq with
  | none => s
  | some q =>
    let s1 := (s.withdraw (.approach n)).withdraw (.spliceTrigger n)
    if s.isReady n q.required q.widthOrder then
      (s1.updSeq n (fun x =>
        { x with triggered := true, approach := true, standby := s.standbyArm n })).pasteTest n
    else s1.endNoRoll n q

/-- A sequence waits untriggered in ARMED as PLANNED. -/
def Seq.waitsPlanned (q : Seq) : Bool := decide (q.kind = .planned) && decide (q.stage = .armed) && !q.triggered

/-- R119: the crossing of the approach start. -/
def State.takeApproach (s : State) (n : Stand) : State :=
  s.updSeq n (fun q => if q.waitsPlanned then { q with approach := true } else q)

/-- R119: the crossing of the trigger. -/
def State.takeSpliceTrigger (s : State) (n : Stand) : State :=
  match (s.spl n).seq with
  | some q => if q.waitsPlanned then s.triggerSeq n else s
  | none => s

/-- R119: an untriggered PLANNED sequence whose roll is at or below MIN_RUN becomes early. -/
def State.takeMinRun (s : State) (n : Stand) : State :=
  match (s.spl n).seq, (s.stand n).runningRoll with
  | some q, some x => if q.waitsPlanned ∧ x.remaining ≤ (s.standCfg n).minRun then s.triggerSeq n else s
  | _, _ => s

/-- R121, R122: PASTED. -/
def State.takePasted (s : State) (n : Stand) : State :=
  match (s.spl n).seq with
  | none => s
  | some q =>
    if q.stage = .paste then
      s.updSpl n (fun r =>
        { r with pasteCmd := none, cutCmd := true,
                 seq := some { q with stage := .cut, timer := some (s.standCfg n).tCut } })
    else s

/-- R122, R123: CUT. -/
def State.takeCutInput (s : State) (n : Stand) : State :=
  match (s.spl n).seq with
  | none => s
  | some q =>
    if q.stage = .cut then
      s.updSpl n (fun r =>
        { r with cutCmd := false, seq := some { q with stage := .transfer, timer := some (s.standCfg n).tTransfer } })
    else s

/-- R123 steps 2 to 4: the spans of a COMPLETE; answers the MISMATCH span laid, if any, with its start as clamped (R124). -/
def State.layJoint (s : State) (n : Stand) (q : Seq) (joint : Pos) : State × Option (Pos × Pos) :=
  let c := s.standCfg n
  let s1 := s.addSpan .splice (srcOf n) (joint.minus c.guardBefore) ((joint.plus c.spliceLen).plus c.guardAfter)
  let range : Option (Pos × Pos) :=
    match q.plan with
    | none => none
    | some p => if isBeyond p.b joint then some (p.b, joint) else if isBeyond joint p.b then some (joint, p.b) else none
  match range with
  | none => (s1.closeMismatch n joint, none)
  | some r =>
    let a := s1.addSpanTell .mismatch (srcOf n) r.1 r.2
    (a.1.closeMismatch n joint, if a.2.isSome then some (clampStart s.tracker.pos r.1, r.2) else none)

/-- R123: TRANSFER expires: COMPLETE. -/
def State.takeTransferExpiry (s : State) (n : Stand) : State :=
  match (s.spl n).seq with
  | none => s
  | some q =>
    if q.stage = .transfer then
      let s1 := s.rollChange n q.standby
      let laid := s1.layJoint n q (q.joint.getD (s.boardAt n))
      let s2 := laid.1.updSpl n (fun r => { r with failures := 0, expiryHeld := false })
      s2.endSeq n q .complete laid.2 true
    else s

/-- R128: the stage timer expires in PASTE. -/
def State.takePasteFail (s : State) (n : Stand) : State :=
  match (s.spl n).seq with
  | none => s
  | some q =>
    if q.stage = .paste then
      let k := min 3 ((s.spl n).failures + 1)
      let s1 := (s.tapeSpent n q.standby).updSpl n (fun r => { r with failures := k })
      let s2 := if k = 3 then s1.standFault n .pasteLimit else s1
      s2.endOwed n q .pasteFail true
    else s

/-- R129: the stage timer expires in CUT. -/
def State.takeCutFail (s : State) (n : Stand) : State :=
  match (s.spl n).seq with
  | none => s
  | some q =>
    if q.stage = .cut then
      let s1 := (s.standFault n .cutFail).post (.halt n .cutFail)
      let s2 := (s1.closeMismatch n (s.boardAt n)).openSpan .splice (srcOf n) (q.joint.getD (s.boardAt n))
      (s2.keepPlan n q).endSeq n q .cutFail none true
    else s

/-- R130: the web-loss report. -/
def State.takeWebLoss (s : State) (n : Stand) : State :=
  let drop := fun (r : SpliceRec) =>
    { r with mismatchOpen := false, expiryHeld := false, wait := (if r.wait = .expiry then .none else r.wait) }
  let s1 := s.updSpl n drop
  match (s.spl n).seq with
  | none => s1
  | some q =>
    let s2 :=
      if q.stage = .armed then s1
      else
        (s1.tapeSpent n q.standby).addSpan .splice (srcOf n)
          ((q.joint.getD (s.boardAt n)).minus (s.standCfg n).guardBefore) (s.boardAt n)
    (s2.keepPlan n q).endSeq n q .webBreak none true

/-! ### Plans and arming (section 7.3) -/

/-- R116: a PLANNED sequence as it is made. -/
def plannedSeq (p : Plan) (point : Pos) (m : Arm) : Seq :=
  { kind := .planned, plan := some p, required := p.kind, widthOrder := some p.id, point := some point, stage := .armed,
    triggered := false, approach := false, cancelReq := false, timer := none, standby := m, joint := none, route := none }

/-- R116: the satisfied test: the RUNNING roll carries the kind. -/
def State.satisfied (s : State) (n : Stand) (kind : Nat) : Bool :=
  match (s.stand n).runningRoll with | some x => decide (x.spec.kind = kind) | none => false

/-- R116: close the open MISMATCH span at the higher of b and E + D_STAND. -/
def State.settleMismatch (s : State) (n : Stand) (b : Pos) : State :=
  s.closeMismatch n (posMax s.tracker.pos b (s.boardAt n))

/-- R116: the predicted remaining length at a point lies below MIN_RUN. -/
def State.isEarly (s : State) (n : Stand) (point : Pos) : Bool :=
  match (s.stand n).runningRoll with
  | none => false
  | some x =>
    let travel := (s.tracker.pos.ahead (point.minus (s.dStand n))).toNat
    let drawn := travel * (s.standCfg n).takeup / s.drawUnit
    decide ((x.remaining : Int) - drawn < (s.standCfg n).minRun)

/-- R116: arm a plan. -/
def State.armPlan (s : State) (n : Stand) (p : Plan) : State :=
  if s.satisfied n p.kind then (s.settleMismatch n p.b).postFirst (.owedWork n true)
  else
    let s1 := match p.owedFrom with | some w => s.openMismatch n w | none => s
    let c := s.standCfg n
    let point := p.b.plus c.spliceOffset
    let q := plannedSeq p point (s.standbyArm n)
    let s2 := s1.updSpl n (fun r => { r with seq := some q })
    if !s.isReady n p.kind (some p.id) then s2.endNoRoll n q
    else if s.isEarly n point then (s2.updSeq n (fun x => { x with approach := true })).triggerSeq n
    else
      let trig := point.minus (s.dStand n)
      let start := trig.minus c.wApproach
      ((s2.updSeq n (fun x => { x with route := some (start, trig) })).register (.approach n) start).register
        (.spliceTrigger n) trig

/-- R117: arm an EXPIRY or NOW sequence with what it requires. -/
def State.armNow (s : State) (n : Stand) (kind : SpliceKind) (plan : Option Plan) (needs : Nat × Option Nat) : State :=
  let q : Seq :=
    { kind := kind, plan := plan, required := needs.1, widthOrder := needs.2, point := none, stage := .armed,
      triggered := false, approach := true, cancelReq := false, timer := none, standby := s.standbyArm n, joint := none,
      route := none }
  (s.updSpl n (fun r => { r with seq := some q })).triggerSeq n

/-- The lower of an owed-from, if any, and a position. -/
def lowerOwed (e : Pos) (w : Option Pos) (p : Pos) : Option Pos :=
  match w with
  | some x => some (posMin e x p)
  | none => some p

/-- R114 step 1: a roll wait is given up to a plan; answers the plan to arm. -/
def State.giveUpWait (s : State) (n : Stand) (p : Plan) : State × Plan :=
  match (s.spl n).wait with
  | .none => (s, p)
  | .expiry => (s.updSpl n (fun r => { r with wait := .none, expiryHeld := true }), p)
  | .plan w =>
    (s.updSpl n (fun r => { r with wait := .none }), { p with owedFrom := lowerOwed s.tracker.pos p.owedFrom w.b })

/-- R115: a new plan takes the slot; it owes the board of the plan it replaces. -/
def Plan.displace (p : Plan) (e : Pos) : Option Plan → Plan
  | none => p
  | some q => { p with owedFrom := lowerOwed e q.owedFrom q.b }

/-- R132: a returned plan goes to the slot, or is owed by the plan held there. -/
def Plan.putBack (p : Plan) (e : Pos) : Option Plan → Plan
  | none => p
  | some held => { held with owedFrom := lowerOwed e held.owedFrom p.b }

/-- R115: a boundary is handed over. -/
def State.takeHandover (s : State) (n : Stand) (b : Pos) (kind id : Nat) : State :=
  let p : Plan := { b := b, kind := kind, id := id, owedFrom := none }
  if s.isFree n then
    let g := s.giveUpWait n p
    g.1.armPlan n g.2
  else
    s.updSpl n (fun r => { r with pendingPlan := some (p.displace s.tracker.pos r.pendingPlan) })

/-- R127: a roll wait is tested, and a sequence is armed when a suitable roll is READY. -/
def State.testWait (s : State) (n : Stand) : State :=
  match (s.spl n).wait with
  | .none => s
  | .expiry =>
    let needs := s.boardNeeds n
    if s.isReady n needs.1 needs.2 then (s.updSpl n (fun r => { r with wait := .none })).armNow n .expiry none needs else s
  | .plan p =>
    if s.isReady n p.kind (some p.id) then
      (s.updSpl n (fun r => { r with wait := .none })).armNow n .now (some p) (p.kind, some p.id)
    else s

/-- R127: the satisfied test of a wait PLAN. -/
def State.settleWait (s : State) (n : Stand) : State :=
  match (s.spl n).wait with
  | .plan p =>
    if s.satisfied n p.kind then (s.settleMismatch n p.b).updSpl n (fun r => { r with wait := .none }) else s
  | _ => s

/-- R127: a roll becomes READY on a stand. -/
def State.takeRollReady (s : State) (n : Stand) : State :=
  let s1 := s.settleWait n
  if s1.isFree n then s1.testWait n else s1

/-- R114: a stand takes up owed work; `withWait` is false after a cancel (R134). -/
def State.takeOwedWork (s : State) (n : Stand) (withWait : Bool) : State :=
  if !s.isFree n then s
  else
    let r := s.spl n
    match r.pendingPlan with
    | some p =>
      let g := (s.updSpl n (fun x => { x with pendingPlan := none })).giveUpWait n p
      g.1.armPlan n g.2
    | none =>
      if withWait ∧ r.wait ≠ .none then s.takeRollReady n
      else if r.expiryHeld then
        (s.updSpl n (fun x => { x with expiryHeld := false })).armNow n .expiry none (s.boardNeeds n)
      else s

/-- R117: an expiry raised by the Reel Stands. -/
def State.takeExpiry (s : State) (n : Stand) : State :=
  let r := s.spl n
  if s.isFree n ∧ r.wait = .none ∧ r.pendingPlan = none then s.armNow n .expiry none (s.boardNeeds n)
  else if r.wait = .expiry then s
  else s.updSpl n (fun x => { x with expiryHeld := true })

/-- R131: the clear report. -/
def State.takeCleared (s : State) (n : Stand) : State :=
  let s1 := s.updSpl n (fun r =>
    { r with failures := 0, expiryHeld := false, mismatchOpen := false,
             wait := (if r.wait = .expiry then .none else r.wait) })
  let s2 :=
    match (s1.spl n).wait with
    | .plan p => if s1.satisfied n p.kind then s1.settleWait n else s1.openMismatch n (s.boardAt n)
    | _ => s1
  s2.postFirst (.owedWork n true)

/-! ### Emergency stop and modes (section 7.7) -/

/-- R132: what a sequence stopped in ARMED leaves. -/
def State.returnArmed (s : State) (n : Stand) (q : Seq) : State :=
  match q.kind, q.plan with
  | .expiry, _ => s.updSpl n (fun r => { r with expiryHeld := true })
  | .planned, some p =>
    s.updSpl n (fun r => { r with pendingPlan := some (p.putBack s.tracker.pos r.pendingPlan) })
  | _, _ => s.keepPlan n q

/-- R132: a stand at the emergency stop. -/
def State.stopSplice (s : State) (n : Stand) : State :=
  match (s.spl n).seq with
  | none => s
  | some q =>
    if q.stage = .armed then (s.returnArmed n q).endSeq n q .aborted none true
    else
      let s1 := (s.tapeSpent n q.standby).standFault n .spliceEstop
      let s2 := (s1.closeMismatch n (s.boardAt n)).openSpan .splice (srcOf n) (q.joint.getD (s.boardAt n))
      (s2.keepPlan n q).endSeq n q .estop none true

/-- R114, R120, R132: a line mode is entered, and the stands take it from S1 to S7 (DESIGN CHOICE, log 47). -/
def State.spliceModeEntry (s : State) (before after : Mode) : State :=
  if after = .estopped then s.each allStands (fun n t => t.stopSplice n)
  else
    let s1 := if before = .estopped then s.postAll (allStands.map (fun n => .owedWork n true)) else s
    if after = .running ∨ after = .stopping then s1.each allStands (fun n t => t.pasteTest n) else s1

/-- R120: every stand makes the paste-start test, from S1 to S7 (DESIGN CHOICE, log 47). -/
def State.pasteTests (s : State) : State := s.each allStands (fun n t => t.pasteTest n)

/-! ### The SPLICE limits (R125) -/

/-- R125: the SPLICE limit of a stand. -/
def State.spliceLimit (s : State) (n : Stand) : Option Nat :=
  if s.gov.mode = .unconfigured then none
  else
    match (s.spl n).seq with
    | some q => if q.approach then some s.govCfg.spliceSpeed else none
    | none => none

/-! ### Requests (section 7.8) -/

/-- R133: SPLICE_NOW. A stand outside 1..7 is BAD_VALUE before the line mode is looked at (DESIGN CHOICE, log 48). -/
def State.reqSpliceNow (s : State) (stand : Nat) : State × Reply :=
  match Stand.ofNumber stand with
  | none => (s, .just .badValue)
  | some n =>
    let r := s.spl n
    let planWait : Bool := match r.wait with | .plan _ => true | _ => false
    if s.gov.mode ≠ .running ∨ (s.stand n).fault.isSome then (s, .just .wrongMode)
    else if r.seq.isSome ∨ planWait then (s, .just .busy)
    else
      let needs := s.boardNeeds n
      if !s.isReady n needs.1 needs.2 then (s, .just .notReady)
      else
        let m := s.standbyArm n
        let id := match (s.stand n).arm m with | some x => x.spec.id | none => 0
        let s1 := if r.wait = .expiry then s.updSpl n (fun x => { x with wait := .none, expiryHeld := true }) else s
        (s1.armNow n .now none needs, .okWith (u8 (Stand.number n) ++ u8 (Arm.code m) ++ u32 id))

/-- R134: what a sequence cancelled in ARMED leaves, and its end. -/
def State.cancelArmed (s : State) (n : Stand) (q : Seq) : State :=
  s.endOwed n q .aborted false

/-- R134: the reply of an accepted cancel: the stage found, when a sequence was, and whether it was aborted. -/
def cancelReply (stage : Option Stage) (aborted : Bool) : Reply :=
  .okWith (encOpt (fun x => u8 (Stage.code x)) stage ++ encBool aborted)

/-- R134: CANCEL_SPLICE. A stand outside 1..7 is BAD_VALUE in UNCONFIGURED too (DESIGN CHOICE, log 48). -/
def State.reqCancelSplice (s : State) (stand : Nat) : State × Reply :=
  match Stand.ofNumber stand with
  | none => (s, .just .badValue)
  | some n =>
    let r := s.spl n
    if s.gov.mode = .unconfigured then (s, .just .wrongMode)
    else
      match r.seq, r.wait with
      | some q, _ =>
        if q.stage = .armed then (s.cancelArmed n q, cancelReply (some .armed) true)
        else (s.updSeq n (fun x => { x with cancelReq := true }), cancelReply (some q.stage) false)
      | none, .expiry => (s.updSpl n (fun x => { x with wait := .none }), cancelReply none false)
      | none, .plan _ => (s, .just .inUse)
      | none, .none =>
        if r.expiryHeld then (s.updSpl n (fun x => { x with expiryHeld := false }), cancelReply none false)
        else if r.pendingPlan.isSome then (s, .just .inUse)
        else (s, .just .notFound)

/-- A sequence record as READ_SPLICE gives it; `time` is the time left on its stage timer, when it runs. -/
def Seq.enc (q : Seq) (time : Option Nat) : List Byte :=
  u8 q.kind.code ++ encOpt Plan.enc q.plan ++ u8 q.required ++ encOpt u32 q.widthOrder ++ encOpt encPos q.point ++
    u8 q.stage.code ++ encBool q.triggered ++ encBool q.approach ++ encBool q.cancelReq ++ encOpt u32 time ++
    u8 (Arm.code q.standby) ++ encOpt encPos q.joint

/-- A roll wait as a field: NONE 0, EXPIRY 1, PLAN 2, and the plan when PLAN. -/
def RollWait.enc : RollWait → List Byte
  | .none => u8 0 ++ encOpt Plan.enc Option.none
  | .expiry => u8 1 ++ encOpt Plan.enc Option.none
  | .plan p => u8 2 ++ encOpt Plan.enc (some p)

/-- R135: the approach start and trigger positions of an untriggered PLANNED sequence. -/
def SpliceRec.route (r : SpliceRec) : Option (Pos × Pos) :=
  match r.seq with
  | some q => if q.waitsPlanned then q.route else none
  | none => none

/-- R135: READ_SPLICE. The approach start and trigger are one optional pair, with one presence byte (DESIGN CHOICE, log 13). -/
def State.reqReadSplice (s : State) (stand : Nat) : State × Reply :=
  match Stand.ofNumber stand with
  | none => (s, .just .badValue)
  | some n =>
    let r := s.spl n
    (s.spendChoice 1,
     .okWith (encOpt (fun q => Seq.enc q (q.timer.map (s.timeLeft 0))) r.seq ++
       encOpt (fun x => encPos x.1 ++ encPos x.2) r.route ++
       encOpt Plan.enc r.pendingPlan ++ r.wait.enc ++ encBool r.expiryHeld ++ encBool r.mismatchOpen ++ u8 r.failures ++
       encOpt SpliceEnd.enc r.last ++ encSpeed (tget s.limits.splice n)))

end Sys2Proof.Machine
end

