-- ==== Sys2Proof/Machine/Heating.lean ====
section
/-! DEFINITION. The Measurement Scanner and Heat Control (chapter 8): conversions, the supply header, the zones with their
control, holds, windows and recipes, the HEAT limit and the heat requests. -/

namespace Sys2Proof.Machine

/-! ### The scanner (section 8.2) -/

/-- R137: the length of a conversion in microseconds. -/
def State.convTime (s : State) : Nat := (256 - s.zonesCfg.scanDiv) * 8

/-- R138: the record of a raw result under a scaling. -/
def Scaling.read (c : Scaling) (raw : Raw) : Reading :=
  { raw := raw, value := c.lo + Int.tdiv ((raw.toNat : Int) * (c.hi - c.lo)) 4095,
    bad := decide (raw.toNat = 0) || decide (raw.toNat = 4095) }

/-- The record of a channel. -/
def State.reading (s : State) (c : Channel) : Option Reading := tget s.scanner.channels c

/-- The probe channel of a zone. -/
def zoneChannel (z : Zone) : Channel := ⟨z.val, by omega⟩

/-- The gap sensor channel of a glue unit. -/
def unitChannel (u : GlueUnit) : Channel := ⟨12 + u.val, by omega⟩

/-- R137: the channel after one. -/
def nextChannel (c : Channel) : Channel := c + 1

/-- R137, R138: the channel record of a completed conversion is formed, the pointer moves on and the next conversion
starts. -/
def State.formRecord (s : State) (raw : Raw) : State :=
  let c := s.scanner.pointer
  { s with
    scanner := { pointer := nextChannel c, conversion := some s.convTime,
                 channels := tset s.scanner.channels c (some (Scaling.read (tget s.zonesCfg.channels c) raw)) } }

/-- R137: a ZONES section in force keeps one conversion in flight. -/
def State.startScanner (s : State) : State :=
  match s.scanner.conversion with
  | some _ => s
  | none => { s with scanner := { s.scanner with conversion := some s.convTime } }

/-! ### Zones (section 8.4) -/

/-- Section 8.4: a zone is required. -/
def ZoneRec.required (r : ZoneRec) : Bool := match r.active with | some a => decide (0 < a.setpoint) | none => false

/-- R142: the state a zone finds. -/
def State.findZoneState (s : State) (z : Zone) : ZoneState :=
  let r := s.zone z
  if !r.enabled then .off
  else if s.heat.header ≠ .ready then .waitingSupply
  else
    match s.reading (zoneChannel z) with
    | none => .noReading
    | some x =>
      if x.bad then .probeFault
      else
        match r.active with
        | none => .inWindow
        | some a =>
          if a.setpoint = 0 then .inWindow
          else if x.value < (a.setpoint : Int) - a.low then .below
          else if (a.setpoint : Int) + a.high < x.value then .above
          else .inWindow

/-- R146: the hold of a zone as its state goes from one to another. -/
def ZoneRec.holdAt (r : ZoneRec) (probeHold : Nat) (new : ZoneState) : Hold :=
  if new = .probeFault then
    if r.state = .probeFault then r.hold
    else if r.state = .below ∨ r.state = .inWindow ∨ r.state = .above then
      (if probeHold = 0 then .ffOnly else .holding r.output probeHold)
    else .ffOnly
  else if r.state = .probeFault then .none
  else r.hold

/-- R151: the below timer of a zone as its state goes from one to another. -/
def ZoneRec.belowAt (r : ZoneRec) (grace : Nat) (new : ZoneState) : BelowTimer :=
  if new = .below then
    (if r.state = .below then r.below else if grace = 0 then .expired else .running grace)
  else if r.state = .below then .stopped
  else r.below

/-- R143: a zone that cannot heat has output 0, I 0 and no hold. -/
def ZoneRec.rest (r : ZoneRec) : ZoneRec := { r with output := 0, integral := 0, hold := .none }

/-- R142, R143, R146, R147, R151: a zone after it has found a state. -/
def ZoneRec.enter (r : ZoneRec) (probeHold grace : Nat) (new : ZoneState) : ZoneRec :=
  let r1 : ZoneRec :=
    { r with state := new, hold := r.holdAt probeHold new, below := r.belowAt grace new,
             window := !r.required || decide (new = .inWindow) }
  if (new = .off ∨ new = .waitingSupply) ∧ r.state ≠ new then r1.rest else r1

/-- R151: no zone is BELOW. -/
def State.noneBelow (s : State) : Bool := allZones.all (fun z => !decide ((s.zone z).state = .below))

/-- R151: the heat-slow flag takes a value; a change marks ZONES. -/
def State.setSlow (s : State) (b : Bool) : State :=
  if s.heat.slow = b then s else { s with heat := { s.heat with slow := b } }.mark srcZones

/-- R148: open or close the HEAT span when the window changes. -/
def State.zoneSpan (s : State) (z : Zone) (was now : Bool) : State :=
  let p := s.tracker.pos.plus (s.dZone z)
  if was = now then s
  else if now then (s.mark srcZones).closeSpan (.zone z) p
  else (s.mark srcZones).openSpan .heat (.zone z) p

/-- R142, R147, R148, R151: a zone finds its state, its window and its below timer. -/
def State.findZone (z : Zone) (s : State) : State :=
  let r := s.zone z
  let new := s.findZoneState z
  let r1 := r.enter s.zonesCfg.probeHold s.zonesCfg.heatGrace new
  let s1 := (s.setZone z r1).markIf (!decide (r.state = new)) srcZones
  let s2 :=
    if r.state ≠ .below ∧ new = .below ∧ r1.below = .expired then s1.setSlow true
    else if r.state = .below ∧ new ≠ .below ∧ s1.noneBelow then s1.setSlow false
    else s1
  s2.zoneSpan z r.window r1.window

/-- R151: the below timer of a zone expires. -/
def State.takeBelowExpiry (s : State) (z : Zone) : State :=
  match (s.zone z).below with
  | .running _ => (s.setZone z { s.zone z with below := .expired }).setSlow true
  | _ => s

/-- R146: the hold timer of a zone expires. -/
def State.takeHoldExpiry (s : State) (z : Zone) : State :=
  match (s.zone z).hold with
  | .holding _ _ => s.setZone z { s.zone z with hold := .ffOnly }
  | _ => s

/-! ### Control (R144 to R146) -/

/-- R144: the feed-forward of a base output at a reference. -/
def feedForward (base ref : Nat) : Int := Int.tdiv ((base : Int) * ref) 4500

/-- R144: a gain times an error, in 1/64. -/
def gainTerm (k : Nat) (e : Int) : Int := Int.tdiv ((k : Int) * e) 64

/-- R145: the integral after a period. -/
def nextIntegral (u di i : Int) : Int :=
  clampInt (-1000) 1000 (if (1000 ≤ u ∧ 0 < di) ∨ (u ≤ 0 ∧ di < 0) then i else i + di)

/-- R144, R145: full control of a required zone with a reading. -/
def ZoneRec.regulate (r : ZoneRec) (g : Gains) (a : ZoneRecipe) (pv : Int) (ref : Nat) : ZoneRec :=
  let e := (a.setpoint : Int) - pv
  let ff := feedForward a.base ref
  let p := gainTerm g.kp e
  let i := nextIntegral (ff + p + r.integral) (gainTerm g.ki e) r.integral
  { r with integral := i, output := (clampInt 0 1000 (ff + p + i)).toNat }

/-- R146: feed-forward only. -/
def ZoneRec.feedOnly (r : ZoneRec) (ref : Nat) : ZoneRec :=
  match r.active with
  | some a => { r with output := if a.setpoint = 0 then 0 else (clampInt 0 1000 (feedForward a.base ref)).toNat }
  | none => { r with output := 0 }

/-- R143 to R146: a zone at the zone period. -/
def State.zonePeriod (z : Zone) (s : State) : State :=
  let r := s.zone z
  let ref := s.gov.reference
  match r.state with
  | .off => s.setZone z { r with output := 0 }
  | .waitingSupply => s.setZone z { r with output := 0 }
  | .noReading => s.setZone z (r.feedOnly ref)
  | .probeFault =>
    match r.hold with
    | .holding v _ => s.setZone z { r with output := v }
    | _ => s.setZone z (r.feedOnly ref)
  | _ =>
    match r.active, s.reading (zoneChannel z) with
    | some a, some x =>
      if a.setpoint = 0 then s.setZone z { r with output := 0 }
      else s.setZone z (r.regulate (tget s.zonesCfg.gains z) a x.value ref)
    | _, _ => s.setZone z { r with output := 0 }

/-- R144: the zone period at every zone. -/
def State.takeZonePeriod (s : State) : State := s.each allZones State.zonePeriod

/-! ### The supply header (section 8.3) -/

/-- Section 8.3: the header enters a state; a change marks SUPPLY and is taken at every zone, in ascending number (DESIGN CHOICE,
log 47). -/
def State.setHeader (s : State) (h : Header) (settle : Option Nat) : State :=
  let s1 := { s with heat := { s.heat with header := h, settle := settle } }
  if s.heat.header = h then s1 else (s1.mark srcSupply).each allZones State.findZone

/-- R140, R141: the header enters SETTLING. -/
def State.startSettle (s : State) : State := s.setHeader .settling (some s.zonesCfg.supplySettle)

/-- R141: the PRESSURE OK input changes. -/
def State.takePressure (s : State) (ok : Bool) : State :=
  let s1 := { s with heat := { s.heat with pressureOk := ok } }
  if ok then (if s.heat.header = .lost then s1.startSettle else s1)
  else if s.heat.header = .settling ∨ s.heat.header = .ready then s1.setHeader .lost none
  else s1

/-- R141: the settle timer expires. -/
def State.takeSettleExpiry (s : State) : State :=
  if s.heat.header = .settling then s.setHeader .ready none else s

/-- R140: SET_SUPPLY. A value other than on or off is BAD_VALUE in UNCONFIGURED too (DESIGN CHOICE, log 48). -/
def State.reqSetSupply (s : State) (code : Nat) : State × Reply :=
  match onOfCode code with
  | none => (s, .just .badValue)
  | some on =>
    if s.gov.mode = .unconfigured then (s, .just .wrongMode)
    else
      let s1 :=
        if on then
          (if s.heat.header = .off then (if s.heat.pressureOk then s.startSettle else s.setHeader .lost none) else s)
        else s.setHeader .off none
      (s1, .okWith (u8 s1.heat.header.code))

/-! ### Recipes (section 8.6) -/

/-- R149: keep the registration at the oldest pending entry of a zone. -/
def State.followZone (s : State) (z : Zone) : State :=
  match (s.zone z).pending with
  | [] => s
  | e :: _ => s.register (.zone z) (e.1.minus (s.dZone z))

/-- R149: a recipe is sent to a zone. -/
def State.takeZoneRecipe (b : Pos) (g : Grade) (z : Zone) (s : State) : State :=
  let r := s.zone z
  let s1 := s.setZone z { r with pending := r.pending ++ [(b, tget g.zones z)] }
  if r.pending.isEmpty then s1.followZone z else s1

/-- R150: a zone commits its oldest pending entry. -/
def State.takeZoneCommit (s : State) (z : Zone) : State :=
  let r := s.zone z
  match r.pending with
  | [] => s
  | e :: l => (State.findZone z (s.setZone z { r with pending := l, active := some e.2 })).followZone z

/-! ### The HEAT limit and requests (sections 8.7, 8.8) -/

/-- R151: the HEAT limit. -/
def State.heatLimit (s : State) : Option Nat :=
  if s.gov.mode = .unconfigured then none else if s.heat.slow then some s.zonesCfg.heatSlow else none

/-- A window as a field, in or out as R193 numbers it: in 0, out 1. A heat zone's too, where the table of section 8.4 has its field as
'In window', yes or no (DESIGN CHOICE, log 50). -/
def encWindow (inside : Bool) : List Byte := encBool (!inside)

/-- R152: ENABLE_ZONE. A request that repeats the present setting changes nothing. A zone or a value out of range is BAD_VALUE in
UNCONFIGURED too (DESIGN CHOICE, log 48). -/
def State.reqEnableZone (s : State) (zone code : Nat) : State × Reply :=
  match Zone.ofNumber zone, onOfCode code with
  | some z, some on =>
    if s.gov.mode = .unconfigured then (s, .just .wrongMode)
    else
      let s1 := if (s.zone z).enabled = on then s else State.findZone z (s.setZone z { s.zone z with enabled := on })
      (s1, .okWith (u8 (s1.zone z).state.code ++ encWindow (s1.zone z).window))
  | _, _ => (s, .just .badValue)

/-- A reading as READ_ZONES gives it. -/
def Reading.enc (x : Reading) : List Byte := u16 x.raw.toNat ++ i16 x.value ++ encBool x.bad

/-- A zone as READ_ZONES gives it: the fields before its pending list, the list, and the fields after. -/
def State.zoneSegs (s : State) (z : Zone) : List Seg :=
  let r := s.zone z
  let held : List Byte :=
    match r.hold with
    | .none => u8 0 ++ u8 0
    | .holding v t => u8 1 ++ u8 1 ++ u16 v ++ u32 (s.timeLeft (1 + z.val) t)
    | .ffOnly => u8 2 ++ u8 0
  let below : List Byte :=
    match r.below with
    | .stopped => u8 0 ++ u8 0
    | .running t => u8 1 ++ u8 1 ++ u32 (s.timeLeft (13 + z.val) t)
    | .expired => u8 2 ++ u8 0
  [.raw (encBool r.enabled ++ u8 r.state.code ++ encOpt ZoneRecipe.enc r.active),
   .list (r.pending.map (fun e => encPos e.1)),
   .raw (i16 r.integral ++ u16 r.output ++ held ++ below ++ encWindow r.window)]

/-- R153: READ_ZONES. -/
def State.reqReadZones (s : State) : State × Reply :=
  (s.spendChoice 25,
   { status := .ok,
     fields :=
       [.raw (u8 s.heat.header.code ++ encOpt (fun t => u32 (s.timeLeft 0 t)) s.heat.settle ++ u8 s.scanner.pointer.val ++
           encTable (encOpt Reading.enc) s.scanner.channels)] ++
         allZones.flatMap s.zoneSegs ++ [.raw (encBool s.heat.slow ++ encSpeed s.limits.heat)] })

/-- R154: the data of a ZONES notice. -/
def State.zonesView (s : State) : List Byte :=
  allZones.flatMap (fun z => u8 (s.zone z).state.code) ++
    encList (fun z : Zone => u8 z.val) (allZones.filter (fun z => !(s.zone z).window)) ++ encSpeed s.limits.heat

end Sys2Proof.Machine
end

