-- ==== Sys2Proof/Machine/Gluing.lean ====
section
/-! DEFINITION. The Glue Units (chapter 9): target gaps and moves, lift and reapply, windows and GLUE spans, recipes, the
emergency stop and the glue requests. -/

namespace Sys2Proof.Machine

/-! ### Outputs (R157) -/

/-- R157: the gap target output: the park target in PARKED, the commanded gap in every other state. -/
def GlueRec.gapOutput (r : GlueRec) : GapOutput :=
  match r.state, r.commanded with
  | .parked, _ => .park
  | _, some g => .gap g
  | _, none => .park

/-- R157: the apply output: on while the roll is APPLIED. -/
def GlueRec.applyOut (r : GlueRec) : Bool := r.applied

/-- R157: the lift output: on while the roll is LIFTED. -/
def GlueRec.liftOut (r : GlueRec) : Bool := !r.applied

/-! ### Windows and spans (section 9.5) -/

/-- R163: a glue unit's window. -/
def State.unitInWindow (s : State) (u : GlueUnit) : Bool :=
  let r := s.unit u
  match r.state with
  | .applying =>
    match s.reading (unitChannel u), r.commanded with
    | some x, some c => !x.bad && decide ((x.value - (c : Int)).natAbs ≤ s.zonesCfg.gapTol)
    | _, _ => false
  | .lifted => !s.glue.motion
  | .parked => !s.glue.motion
  | .moving => false
  | .fault => false

/-- R163, R164: a unit finds its window with E at a position; a change marks GLUE and opens or closes its span. -/
def State.findUnitAt (e : Pos) (u : GlueUnit) (s : State) : State :=
  let now := s.unitInWindow u
  let p := e.plus (s.dGlue u)
  if (s.unit u).window = now then s
  else
    let s1 := (s.setUnit u { s.unit u with window := now }).mark srcGlue
    if now then s1.closeSpan (.glue u) p else s1.openSpan .glue (.glue u) p

/-- R163, R164: a unit finds its window now. -/
def State.findUnit (u : GlueUnit) (s : State) : State := State.findUnitAt s.tracker.pos u s

/-- Change a unit; a change of its state or roll marks GLUE (R169) and finds its window (R163). -/
def State.updUnit (s : State) (u : GlueUnit) (f : GlueRec → GlueRec) : State :=
  let r := s.unit u
  let r1 := f r
  let s1 := s.setUnit u r1
  if r.state = r1.state ∧ r.applied = r1.applied then s1 else State.findUnit u (s1.mark srcGlue)

/-- R163: the board-in-motion flag takes a value, with E at a position; each change is an event at every unit. -/
def State.setMotion (s : State) (b : Bool) (e : Pos) : State :=
  if s.glue.motion = b then s else { s with glue := { s.glue with motion := b } }.each allUnits (State.findUnitAt e)

/-- R163, R164: board begins to move: a span then opened starts at the knife position of the first count of that board, where the
board stood at the unit before the step raised E, so that it touches a span closed at rest (DEDUCED, log 45). -/
def State.takeMotion (s : State) : State := s.setMotion true (s.tracker.pos.minus 1)

/-! ### Targets and moves (section 9.3) -/

/-- R158: the gap between two breakpoints at a speed. -/
def between (p q : Breakpoint) (v : Nat) : Int :=
  (p.gap : Int) + Int.tdiv (((q.gap : Int) - p.gap) * ((v : Int) - p.speed)) ((q.speed : Int) - p.speed)

/-- R158: the gap of a recipe at a speed, before the clamp. -/
def gapAt (g : GlueRecipe) (v : Nat) : Int :=
  if v < (tget g 0).speed then (tget g 0).gap
  else if (tget g 3).speed ≤ v then (tget g 3).gap
  else if (tget g 2).speed ≤ v then between (tget g 2) (tget g 3) v
  else if (tget g 1).speed ≤ v then between (tget g 1) (tget g 2) v
  else between (tget g 0) (tget g 1) v

/-- R158: the target gap of a recipe at the reference in force, clamped to GAP_MIN..GAP_MAX. -/
def State.targetGap (s : State) (g : GlueRecipe) : Nat :=
  (clampInt s.zonesCfg.gapMin s.zonesCfg.gapMax (gapAt g s.gov.reference)).toNat

/-- R159: a move, or a retarget, is sent: the new commanded gap, with the move timer started afresh. -/
def GlueRec.send (r : GlueRec) (t time : Nat) : GlueRec :=
  { r with state := .moving, commanded := some t, confirmed := false, timer := some time }

/-- R159: a target differs from the commanded gap by the deadband or more. -/
def GlueRec.farFrom (r : GlueRec) (t deadband : Nat) : Bool :=
  match r.commanded with
  | some c => decide (deadband ≤ ((t : Int) - c).natAbs)
  | none => true

/-- R159: a unit acts on a target it has computed. -/
def GlueRec.take (r : GlueRec) (t deadband time : Nat) : GlueRec :=
  match r.state with
  | .parked => r.send t time
  | .lifted => if r.confirmed && !r.farFrom t deadband then r else r.send t time
  | .applying => if r.farFrom t deadband then r.send t time else r
  | .moving => if r.farFrom t deadband then r.send t time else r
  | .fault => r

/-- R159: a unit computes its target; in ESTOPPED it is recorded and no move is sent. -/
def State.computeTarget (u : GlueUnit) (s : State) : State :=
  match (s.unit u).active with
  | none => s
  | some g =>
    if s.gov.mode = .unconfigured then s
    else
      let t := s.targetGap g
      let c := s.zonesCfg
      s.updUnit u (fun r =>
        let r1 := { r with target := some t }
        if s.gov.mode = .estopped then r1 else r1.take t c.gapDeadband c.gapMoveTime)

/-! ### Lift and reapply (section 9.4) -/

/-- R161: the lift test holds. -/
def State.liftHolds (s : State) : Bool := !s.lineMoves || decide (s.tracker.measured < s.govCfg.glueLift)

/-- R161: a unit lifts its roll. -/
def GlueRec.lift (r : GlueRec) : GlueRec :=
  match r.state with
  | .applying => { r with state := .lifted, applied := false }
  | .moving => { r with applied := false }
  | _ => r

/-- R161: the lift test at a unit. -/
def State.liftTest (u : GlueUnit) (s : State) : State := if s.liftHolds then s.updUnit u GlueRec.lift else s

/-- R162: the reapply test holds for a unit. -/
def State.reapplyHolds (s : State) (u : GlueUnit) : Bool :=
  let r := s.unit u
  decide (r.state = .lifted) && r.confirmed && decide (s.gov.mode = .running) &&
    decide (s.govCfg.glueLift + 50 ≤ s.tracker.measured)

/-- R162: the reapply test at a unit. -/
def State.reapplyTest (u : GlueUnit) (s : State) : State :=
  if s.reapplyHolds u then s.updUnit u (fun r => { r with state := .applying, applied := true }) else s

/-- R161, R162: both tests at every unit. -/
def State.glueTests (s : State) : State := s.each allUnits (fun u t => State.reapplyTest u (State.liftTest u t))

/-- R161 to R163: a publication of measured speed reaches the units. At 0 the board-in-motion flag is cleared before the lift test
is made (DESIGN CHOICE, log 46). -/
def State.gluePublish (s : State) : State :=
  (if s.tracker.measured = 0 then s.setMotion false s.tracker.pos else s).glueTests

/-! ### Inputs (R160) -/

/-- R160: ARRIVED. -/
def State.takeArrived (s : State) (u : GlueUnit) : State :=
  if (s.unit u).state = .moving then
    State.reapplyTest u
      (s.updUnit u (fun r =>
        { r with state := if r.applied then .applying else .lifted, confirmed := true, timer := none }))
  else s

/-- R160: the move timer of a unit expires. -/
def State.takeMoveExpiry (s : State) (u : GlueUnit) : State :=
  if (s.unit u).state = .moving then
    s.updUnit u (fun r => { r with state := .fault, applied := false, timer := none })
  else s

/-! ### Recipes (section 9.6) -/

/-- R165: keep the registration at the oldest pending entry of a unit. -/
def State.followUnit (s : State) (u : GlueUnit) : State :=
  match (s.unit u).pending with
  | [] => s
  | e :: _ => s.register (.glue u) (e.1.minus (s.dGlue u))

/-- R165: breakpoints are sent to a unit. -/
def State.takeGlueRecipe (b : Pos) (g : Grade) (u : GlueUnit) (s : State) : State :=
  let r := s.unit u
  let s1 := s.setUnit u { r with pending := r.pending ++ [(b, tget g.glue u)] }
  if r.pending.isEmpty then s1.followUnit u else s1

/-- R166: a unit commits its oldest pending entry. -/
def State.takeGlueCommit (s : State) (u : GlueUnit) : State :=
  let r := s.unit u
  match r.pending with
  | [] => s
  | e :: l =>
    let s1 := State.computeTarget u (s.setUnit u { r with pending := l, active := some e.2 })
    (State.findUnit u s1).followUnit u

/-- R31, R149, R165: a grade's recipes are sent to every zone and glue unit, to the zones first and to each kind in ascending number
(DESIGN CHOICE, log 47). -/
def State.takeRecipes (s : State) (b : Pos) (g : Grade) : State :=
  (s.each allZones (State.takeZoneRecipe b g)).each allUnits (State.takeGlueRecipe b g)

/-! ### Modes (section 9.8) -/

/-- R170: a unit at the emergency stop. -/
def GlueRec.stop (r : GlueRec) : GlueRec :=
  match r.state with
  | .applying => { r with state := .lifted, applied := false, confirmed := true }
  | .moving => { r with state := .lifted, applied := false, confirmed := false, timer := none }
  | _ => r

/-- R161, R162, R170: a line mode is entered. -/
def State.glueModeEntry (s : State) (after : Mode) : State :=
  if after = .estopped then s.each allUnits (fun u t => t.updUnit u GlueRec.stop)
  else if after = .running then s.glueTests
  else s.each allUnits State.liftTest

/-! ### Requests (section 9.7) -/

/-- R167: CLEAR_GLUE. A unit outside 1..4 is BAD_VALUE in UNCONFIGURED too (DESIGN CHOICE, log 48). -/
def State.reqClearGlue (s : State) (code : Nat) : State × Reply :=
  match GlueUnit.ofNumber code with
  | none => (s, .just .badValue)
  | some u =>
    if s.gov.mode = .unconfigured ∨ (s.unit u).state ≠ .fault then (s, .just .wrongMode)
    else
      (s.updUnit u (fun r => { r with state := .lifted, confirmed := false }),
       .okWith (u8 (GlueUnit.number u) ++ u8 (GlueState.code .lifted)))

/-- The roll as a field: APPLIED 0, LIFTED 1. -/
def encRoll (applied : Bool) : List Byte := u8 (if applied then 0 else 1)

/-- A unit as READ_GLUE gives it. -/
def State.unitSegs (s : State) (u : GlueUnit) : List Seg :=
  let r := s.unit u
  [.raw (u8 r.state.code ++ encRoll r.applied ++ encOpt encGlueRecipe r.active),
   .list (r.pending.map (fun e => encPos e.1)),
   .raw (encOpt u16 r.target ++ encOpt u16 r.commanded ++ encBool r.confirmed ++
     encOpt (fun t => u32 (s.timeLeft u.val (t * 1000))) r.timer ++
     encOpt (fun x => i16 x.value ++ encBool x.bad) (s.reading (unitChannel u)) ++ encWindow r.window)]

/-- R168: READ_GLUE. -/
def State.reqReadGlue (s : State) : State × Reply :=
  (s.spendChoice 4,
   { status := .ok, fields := [.raw (encBool s.glue.motion)] ++ allUnits.flatMap s.unitSegs })

/-- R169: the data of a GLUE notice. -/
def State.glueView (s : State) : List Byte :=
  allUnits.flatMap (fun u => u8 (s.unit u).state.code ++ encRoll (s.unit u).applied) ++
    encList (fun u => u8 (GlueUnit.number u)) (allUnits.filter (fun u => !(s.unit u).window)) ++
    allUnits.flatMap (fun u => encOpt u16 (s.unit u).commanded)

end Sys2Proof.Machine
end

