-- ==== Sys2Proof/Machine/Governing.lean ====
section
/-! DEFINITION. The Speed Governor (chapter 10): mode entries, halts, the emergency stop line, the period step, the
configuration sections and the Governor's requests. -/

namespace Sys2Proof.Machine

/-! ### Mode entries (R176) -/

/-- R171, R176: a change of line mode: the mode entry is counted, marked and handed to the other blocks. -/
def State.enterMode (s : State) (m : Mode) : State :=
  let g := s.gov
  ({ s with gov := { g with mode := m, runOut := false, modeEntries := (g.modeEntries + 1) % 256 } }.mark
    srcLineMode).post (.modeEntry g.mode m)

/-- R176: the book has run empty. -/
def State.takeRunOut (s : State) : State := { s with gov := { s.gov with runOut := true } }.mark srcLineMode

/-- R176: an order was accepted. -/
def State.takeAccepted (s : State) : State := { s with gov := { s.gov with runOut := false } }

/-! ### Halts (R183) -/

/-- R183: a halt report. -/
def State.takeHalt (s : State) (n : Stand) (c : HaltCause) : State :=
  let g := s.gov
  let record := { s with gov := { g with haltRecord := some (n, c) } }
  match g.mode with
  | .running => { record with gov := { record.gov with fast := true } }.enterMode .stopping
  | .stopping => if g.fast then s else { record with gov := { record.gov with fast := true } }.mark srcLineMode
  | .halted => s
  | .stopped => record.enterMode .halted
  | .estopped => { s with gov := { g with haltOwed := true, haltRecord := some (g.haltRecord.getD (n, c)) } }
  | .unconfigured => s

/-! ### The emergency stop line (R184, R185) -/

/-- R173: D_WET in force. -/
def State.dWet (s : State) : Nat := match s.cfg.geometry with | some g => Geometry.dWet g | none => 0

/-- R184: an assertion taken in STOPPED, RUNNING, STOPPING or HALTED. -/
def State.enterEstopped (s : State) : State :=
  let g := s.gov
  let owed := decide (g.mode = .halted) || (decide (g.mode = .stopping) && g.fast)
  let s1 := { s with
    gov := { g with reference := 0, fast := false, haltOwed := g.haltOwed || owed } }.enterMode .estopped
  let e := s.tracker.pos
  let a := s1.addSpanTell .stop .estop e (e.plus s.dWet)
  a.1.raise srcEstop (.estop e g.mode (a.2.map a.1.viewOf))

/-- R184: an assertion of the ESTOP input. -/
def State.takeAssert (s : State) : State :=
  let s1 := { s with gov := { s.gov with estopLine := true } }
  match s.gov.mode with
  | .unconfigured => s1.raise srcEstop (.estop s.tracker.pos .unconfigured none)
  | .estopped => s1
  | _ => s1.enterEstopped

/-- R185: a release of the ESTOP input. -/
def State.takeRelease (s : State) : State := { s with gov := { s.gov with estopLine := false } }

/-- R185: RESUME; its reply gives the mode with every status. -/
def State.reqResume (s : State) : State × Reply :=
  let reply := fun (st : Status) (t : State) => (t, ({ status := st, fields := [.raw (u8 t.gov.mode.code)] } : Reply))
  match s.gov.mode with
  | .halted => reply .ok ({ s with gov := { s.gov with haltRecord := none } }.enterMode .stopped)
  | .estopped =>
    if s.gov.estopLine then reply .notReady s
    else
      let s1 := { s with gov := { s.gov with haltOwed := false } }.enterMode .stopped
      reply .ok (if s.gov.haltOwed then s1.enterMode .halted else s1)
  | _ => reply .notReady s

/-! ### The period step (R180 to R182) -/

/-- Section 10.4: the limits in list order. -/
def Limits.list (l : Limits) : List (LimitSource × Option Nat) :=
  [(.requested, some l.requested), (.order, l.order), (.knife, l.knife)] ++
    allStands.map (fun n => (.splice n, tget l.splice n)) ++
    [(.reserve, l.reserve), (.heat, l.heat), (.slitter, l.slitter), (.stacker, l.stacker)]

/-- R180: the lowest active limit. -/
def Limits.target (l : Limits) : Nat := (l.list.filterMap (·.2)).foldl min l.requested

/-- R180: the first limit in list order whose value equals the target. -/
def Limits.source (l : Limits) : LimitSource :=
  match l.list.find? (fun x => decide (x.2 = some l.target)) with
  | some x => x.1
  | none => .none

/-- R180: the target and the limiting source of a period. -/
def State.findTarget (s : State) : Nat × LimitSource :=
  match s.gov.mode with
  | .running => (s.limits.target, s.limits.source)
  | .stopping => (0, if s.gov.fast then .fast else .stop)
  | _ => (0, .none)

/-- R181: the reference after the step toward a target. -/
def State.stepReference (s : State) (target : Nat) : Nat :=
  let r := s.gov.reference
  let c := s.govCfg
  let ramp := if r < target then min target (r + c.accelStep) else max target (r - c.decelStep)
  match s.gov.mode with
  | .running => ramp
  | .stopping => if s.gov.fast then r - c.fastStep else ramp
  | _ => 0

/-- R182: the end of a stop. -/
def State.endStop (s : State) : State :=
  if s.gov.mode = .stopping ∧ s.gov.reference = 0 ∧ s.tracker.measured = 0 then
    (if s.gov.fast then { s with gov := { s.gov with fast := false } }.enterMode .halted else s.enterMode .stopped)
  else s

/-- R180 to R182: the Governor's own step at the period expiry. -/
def State.takeGovStep (s : State) : State :=
  let t := s.findTarget
  let s1 := { s with gov := { s.gov with target := t.1, source := t.2, reference := s.stepReference t.1 } }
  (s1.markIf (!decide (s.gov.source = t.2)) srcLimit).endStop

/-- R3: the window closes and measured speed is published; R120, R161 to R163: its readers take the publication. -/
def State.takePublish (s : State) : State :=
  ({ s with tracker := { s.tracker with measured := s.windowSpeed, window := 0 } }).pasteTests.gluePublish

/-! ### Configuration sections (section 10.2) -/

/-- A distance field in its range. -/
def distOk (lo x : Nat) : Bool := decide (lo ≤ x) && decide (x ≤ 16777215)

/-- A number in a range. -/
def within (lo hi x : Nat) : Bool := decide (lo ≤ x) && decide (x ≤ hi)

/-- R112: the distances of one stand fit before the freeze. -/
def standFits (g : Geometry) (c : Vector StandCfg 7) (n : Stand) : Bool :=
  decide (tget g.dStand n + (tget c n).wApproach + (tget c n).spliceOffset ≤ g.dFreeze)

/-- R172 check 4, R173, R79: the fields of GEOMETRY and the tests within it. -/
def Geometry.fieldsOk (g : Geometry) : Bool :=
  within 5000 65535 g.cpm && distOk 1 g.dFreeze && within 200 3000 g.headSpacing && distOk 1 g.dSlit &&
  distOk 0 g.wSlit && distOk 1 g.dGate && distOk 2 g.dStack && g.dStand.toList.all (distOk 1) &&
  g.dZone.toList.all (distOk 1) && g.dGlue.toList.all (distOk 1) && decide (g.dSlit + g.wSlit ≤ g.dFreeze) &&
  g.dZone.toList.all (fun d => decide (d ≤ g.dFreeze)) && g.dGlue.toList.all (fun d => decide (d ≤ g.dFreeze)) &&
  decide (g.dGate < g.dStack)

/-- R172 check 5, R79, R112: GEOMETRY against the other sections in force. -/
def Sections.geometryFits (c : Sections) (g : Geometry) : Bool :=
  (match c.dryend with | some d => decide (g.dStack ≤ 16 * d.kMin) | none => true) &&
    (match c.stands with | some v => allStands.all (standFits g v) | none => true)

/-- R99, R112: the fields of one stand. -/
def StandCfg.fieldsOk (c : StandCfg) : Bool :=
  within 1000 1600 c.takeup && within 20 500 c.reserve && within 5 100 c.minRun && decide (c.minRun < c.reserve) &&
  within 100 2000 c.tPaste && within 50 1000 c.tCut && within 200 5000 c.tTransfer && within 0 1000000 c.spliceOffset &&
  distOk 0 c.wApproach && within 0 1000000 c.guardBefore && within 1 1000000 c.spliceLen && within 0 1000000 c.guardAfter

/-- R112: STANDS against GEOMETRY. -/
def Sections.standsFit (c : Sections) (v : Vector StandCfg 7) : Bool :=
  match c.geometry with | some g => allStands.all (standFits g v) | none => true

/-- R45 and sections 4.1, 5.1: the fields of DRYEND and the tests within it. -/
def DryEnd.fieldsOk (d : DryEnd) : Bool :=
  within 500 65535 d.kMin && within 20 400 d.cMax && within d.kMin 16777215 d.wasteLen && within 20 3000 d.knifeCycle &&
  decide (d.knifeCycle * d.cMax ≤ 57000) && within 1 120 d.setTime && within 1 39 d.fingerWarn

/-- R43, R45, R79: DRYEND against the book and GEOMETRY. -/
def State.dryendFits (s : State) (d : DryEnd) : Bool :=
  s.book.orders.all (fun o => decide (d.kMin ≤ s.productOf o.spec / 10000)) &&
    (match s.cfg.geometry with | some g => decide (g.dStack ≤ 16 * d.kMin) | none => true)

/-- R136: a channel's scaling. -/
def Scaling.ok (c : Scaling) (lo hi : Int) : Bool :=
  decide (lo ≤ c.lo) && decide (c.lo ≤ hi) && decide (lo ≤ c.hi) && decide (c.hi ≤ hi) && decide (c.lo < c.hi)

/-- R136, R156: the fields of ZONES and the tests within it. -/
def ZonesCfg.fieldsOk (z : ZonesCfg) : Bool :=
  within 0 255 z.scanDiv && (z.channels.toList.take 12).all (fun c => Scaling.ok c (-500) 4000) &&
  (z.channels.toList.drop 12).all (fun c => Scaling.ok c 0 2000) &&
  z.gains.toList.all (fun g => within 0 255 g.kp && within 0 255 g.ki) && within 0 60 z.probeHold &&
  within 0 120 z.heatGrace && within 0 4500 z.heatSlow && within 1 900 z.supplySettle && within 20 1000 z.gapMin &&
  within 20 1000 z.gapMax && decide (z.gapMin < z.gapMax) && within 1 100 z.gapDeadband && within 1 200 z.gapTol &&
  within 1 30 z.gapMoveTime

/-- R174: the fields of GOVERNOR. -/
def GovCfg.fieldsOk (g : GovCfg) : Bool :=
  within 1 200 g.accelStep && within 1 200 g.decelStep && within 1 1000 g.fastStep && decide (g.decelStep ≤ g.fastStep) &&
  within 10 1500 g.crawlSpeed && within 100 4500 g.spliceSpeed && within 0 2000 g.glueLift

/-- R172: the checks of a section in their order; none when it passes. -/
def State.sectionCheck (s : State) (sec : Section) : Option Status :=
  let m := s.gov.mode
  let atRest := decide (m = .unconfigured) || decide (m = .stopped)
  match sec with
  | .other _ => some .badValue
  | .geometry g =>
    if !atRest then some .wrongMode
    else if !s.book.orders.isEmpty || !s.map.spans.isEmpty then some .inUse
    else if Geometry.fieldsOk g && s.cfg.geometryFits g then none else some .badValue
  | .stands v =>
    if !atRest then some .wrongMode
    else if v.toList.all StandCfg.fieldsOk && s.cfg.standsFit v then none else some .badValue
  | .dryend d =>
    if !atRest then some .wrongMode else if DryEnd.fieldsOk d && s.dryendFits d then none else some .badValue
  | .zones z => if m = .estopped then some .wrongMode else if ZonesCfg.fieldsOk z then none else some .badValue
  | .governor g => if m = .estopped then some .wrongMode else if GovCfg.fieldsOk g then none else some .badValue

/-- R172: a section that passes replaces the one in force, and each block applies it. -/
def State.applySection (s : State) (sec : Section) : State :=
  match sec with
  | .geometry g => { s with cfg := { s.cfg with geometry := some g } }
  | .stands v => { s with cfg := { s.cfg with stands := some v } }.standsAccepted
  | .dryend d => { s with cfg := { s.cfg with dryend := some d } }.rateNow
  | .zones z => { s with cfg := { s.cfg with zones := some z } }.startScanner
  | .governor g => { s with cfg := { s.cfg with governor := some g } }.post .governorAccepted
  | .other _ => s

/-- R171: the sections accepted, by code. -/
def Sections.accepted (c : Sections) : List Nat :=
  (if c.geometry.isSome then [0] else []) ++ (if c.stands.isSome then [1] else []) ++
    (if c.dryend.isSome then [2] else []) ++ (if c.zones.isSome then [3] else []) ++
    (if c.governor.isSome then [4] else [])

/-- R175: the fifth accepted section leaves UNCONFIGURED; an asserted ESTOP line is then taken at once. -/
def State.leaveUnconfigured (s : State) : State :=
  if s.gov.mode = .unconfigured ∧ s.cfg.accepted.length = 5 then
    let s1 := s.enterMode .stopped
    if s.gov.estopLine then s1.takeAssert else s1
  else s

/-- R172, R175: CONFIGURE. -/
def State.reqConfigure (s : State) (sec : Section) : State × Reply :=
  match s.sectionCheck sec with
  | some st => (s, .just st)
  | none =>
    let s1 := (s.applySection sec).leaveUnconfigured
    (s1, .okWith (encList u8 s1.cfg.accepted ++ u8 s1.gov.mode.code))

/-! ### The other requests -/

/-- R177: stands with no RUNNING roll. -/
def State.idleStands (s : State) : List Stand := allStands.filter (fun n => (s.stand n).running.isNone)

/-- R177: slitter stations in FAULT. -/
def State.faultStations (s : State) : List Station :=
  [Station.a, Station.b].filter (fun st => decide (s.stationState st = .fault))

/-- R177: RUN. -/
def State.reqRun (s : State) : State × Reply :=
  let stands := s.idleStands
  let stations := s.faultStations
  let blocked := decide (s.stacker.mode = .blocked)
  if s.gov.mode ≠ .stopped then (s, .just .wrongMode)
  else if !stands.isEmpty || !stations.isEmpty || blocked then
    (s, { status := .notReady,
          fields := [.list (stands.map (fun n => u8 (Stand.number n))),
                     .list (stations.map (fun t => u8 (Station.code t))), .raw (encBool blocked)] })
  else (s.enterMode .running, .just .ok)

/-- R178: STOP. -/
def State.reqStop (s : State) : State × Reply :=
  match s.gov.mode with
  | .running => ({ s with gov := { s.gov with fast := false } }.enterMode .stopping, .just .ok)
  | .stopping => (s, .just .ok)
  | _ => (s, .just .wrongMode)

/-- R179: SET_SPEED. -/
def State.reqSetSpeed (s : State) (speed : Nat) : State × Reply :=
  let v := min Config.topSpeed speed
  ({ s with limits := { s.limits with requested := v } }, .okWith (u16 v))

/-- The limiting source as fields: its code, and the stand when SPLICE. -/
def LimitSource.enc (x : LimitSource) : List Byte :=
  u8 x.code ++ encOpt (fun n => u8 (Stand.number n)) (match x with | .splice n => some n | _ => Option.none)

/-- The limit table as fields, each a speed or inactive, in list order. -/
def Limits.enc (l : Limits) : List Byte := l.list.flatMap (fun x => encSpeed x.2)

/-- The halt record as an optional field. -/
def encHalt (r : Option (Stand × HaltCause)) : List Byte :=
  encOpt (fun x => u8 (Stand.number x.1) ++ u8 (HaltCause.code x.2)) r

/-- R187: READ_LINE. The ESTOP line is given as 1 when asserted and 0 when released (DESIGN CHOICE, log 13). -/
def State.reqReadLine (s : State) : State × Reply :=
  let g := s.gov
  let c := s.cfg.governor
  (s, .okWith (u8 g.mode.code ++ encBool g.fast ++ encBool g.haltOwed ++ encHalt g.haltRecord ++ encBool g.estopLine ++
    encList u8 s.cfg.accepted ++ u16 g.reference ++ u16 g.target ++ u16 s.tracker.measured ++ g.source.enc ++
    s.limits.enc ++ encBool g.runOut ++ u8 g.modeEntries ++ encOpt u8 (c.map (·.accelStep)) ++
    encOpt u8 (c.map (·.decelStep)) ++ encOpt u16 (c.map (·.fastStep)) ++ encOpt u16 (c.map (·.crawlSpeed)) ++
    encOpt u16 (c.map (·.spliceSpeed)) ++ encOpt u16 (c.map (·.glueLift)) ++
    encOpt u32 (s.cfg.geometry.map Geometry.dWet)))

/-- R176: the data of a LINE_MODE notice; the ESTOP line as in READ_LINE (log 13). -/
def State.lineView (s : State) : List Byte :=
  let g := s.gov
  u8 g.mode.code ++ encBool g.fast ++ u8 g.modeEntries ++ encHalt g.haltRecord ++ encBool g.haltOwed ++
    encBool g.estopLine ++ encBool g.runOut

/-- R180: the data of a LIMIT notice. -/
def State.limitView (s : State) : List Byte := s.gov.source.enc ++ u16 s.gov.target ++ u16 s.gov.reference ++ s.limits.enc

end Sys2Proof.Machine
end

