-- ==== Sys2Proof/Machine/Flags.lean ====
section
/-! DEFINITION. The flags computed from the rest of the state: the limit table the owners keep (section 10.4) and the
abnormal conditions and pending sources of READ_SUMMARY (R197). -/

namespace Sys2Proof.Machine

/-! ### The limit table -/

/-- The limits as their owners set them now; REQUESTED is kept (R41, R58, R72, R89, R101, R125, R151). -/
def State.limitsNow (s : State) : Limits :=
  { requested := s.limits.requested, order := s.orderLimit, knife := s.knifeLimit,
    splice := Vector.ofFn (fun n => s.spliceLimit n), reserve := s.reserveLimit, heat := s.heatLimit,
    slitter := s.slitterLimit, stacker := s.stackerLimit }

/-- R93: the STACKER limit among CRAWL_SPEED, 0 and inactive. -/
def limitClass (l : Option Nat) : Nat :=
  match l with
  | none => 0
  | some v => if v = 0 then 1 else 2

/-- Every owner sets its limit; a change of RESERVE marks STANDS (R110), of SLITTER SLITTER (R78), and of STACKER among its
three values STACKER (R93) (log 18). -/
def State.refreshLimits (s : State) : State :=
  let l := s.limitsNow
  (({ s with limits := l }.markIf (!decide (limitClass s.limits.reserve = limitClass l.reserve)) srcStands).markIf
    (!decide (limitClass s.limits.slitter = limitClass l.slitter)) srcSlitter).markIf
    (!decide (limitClass s.limits.stacker = limitClass l.stacker)) srcStacker

/-! ### READ_SUMMARY (R197) -/

/-- R202: a pending source may be sent now. -/
def Notices.sendable (u : Notices) (i : NoticeSource) : Bool :=
  tget u.waiting i && (decide (i = srcEstop) || decide (tget u.levels i < u.threshold))

/-- The 22 sources in ascending number. -/
def allSources : List NoticeSource :=
  [0, 1, 2, 3, 4, 5, 6, 7, 8, 9, 10, 11, 12, 13, 14, 15, 16, 17, 18, 19, 20, 21]

/-- R204: the pending sources held back by their level and the threshold. -/
def Notices.held (u : Notices) : List NoticeSource := allSources.filter (fun i => tget u.waiting i && !u.sendable i)

/-- R197: the block that owns a source, by its place in the table of section 0.4. -/
def ownerOf (i : NoticeSource) : Nat :=
  if i = srcEstop ∨ i = srcLineMode ∨ i = srcLimit then 11
  else if i.val ≤ 8 then 7
  else if i = srcStands then 6
  else if i = srcSupply ∨ i = srcZones then 9
  else if i = srcGlue then 10
  else if i = srcSlitter then 4
  else if i = srcStacker ∨ i = srcStackOut then 5
  else if i = srcMap then 1
  else if i = srcLink then 12
  else 2

/-- R197: whether a block, by its place in the table of section 0.4, is abnormal. -/
def State.abnormal (s : State) (b : Nat) : Bool :=
  match b with
  | 0 => decide (0 < s.tracker.backtrack)
  | 1 => s.map.spans.any (fun x => x.coarse)
  | 2 => s.book.notApplied
  | 3 => !s.cutoff.ready || !s.cutoff.openSheet.isEmpty || s.cutoff.openWaste
  | 4 => !s.faultStations.isEmpty || s.slitter.awaited.isSome || s.slitter.deferred.isSome
  | 5 => decide (s.stacker.mode = .blocked) || decide (s.limits.stacker = some 0)
  | 6 => allStands.any (fun n => (s.stand n).fault.isSome) || decide (s.limits.reserve = some 0)
  | 7 => allStands.any (fun n => !decide ((s.spl n).wait = .none) || (s.spl n).mismatchOpen)
  | 8 =>
    s.cfg.zones.isSome &&
      s.scanner.channels.toList.any (fun c => match c with | some x => x.bad | none => true)
  | 9 =>
    allZones.any (fun z =>
      ((s.zone z).enabled && !decide (s.heat.header = .ready)) || ((s.zone z).required && !(s.zone z).window)) ||
      s.heat.slow
  | 10 => allUnits.any (fun u => decide ((s.unit u).state = .fault) || !(s.unit u).window)
  | 11 =>
    decide (s.gov.mode = .unconfigured) || decide (s.gov.mode = .halted) || decide (s.gov.mode = .estopped) ||
      s.gov.estopLine || s.gov.haltOwed
  | 12 => decide (s.link.queue.length = Config.queueRoom)
  | 13 => !s.notices.held.isEmpty
  | _ => false

/-- The fourteen blocks by code (R197). -/
def allBlocks : List Nat := [0, 1, 2, 3, 4, 5, 6, 7, 8, 9, 10, 11, 12, 13]

/-- R197: the blocks with a pending source. -/
def State.pendingBlocks (s : State) : List Nat :=
  allBlocks.filter (fun b => allSources.any (fun i => tget s.notices.waiting i && decide (ownerOf i = b)))

/-- R197: READ_SUMMARY. -/
def State.reqReadSummary (s : State) : State × Reply :=
  (s, .okWith (u8 s.gov.mode.code ++ encPos s.tracker.pos ++ encList u8 s.pendingBlocks ++
    encList u8 (allBlocks.filter s.abnormal)))

end Sys2Proof.Machine
end

