-- ==== Sys2Proof/Machine/Noticing.lean ====
section
/-! DEFINITION. The Notice Unit (chapter 12): the data of notices, the choice and making of a notice, and its requests. -/

namespace Sys2Proof.Machine

/-- Section 12.1: the condition sources. -/
def isCondition (i : NoticeSource) : Bool :=
  decide (i = srcLineMode) || (decide (9 ≤ i.val) && decide (i.val ≤ 14)) || decide (i = srcLimit)

/-- R201, R205: the present state a condition source's notice gives. -/
def State.conditionView (s : State) (i : NoticeSource) : List Byte :=
  if i = srcLineMode then s.lineView
  else if i = srcStands then s.standsView
  else if i = srcSupply then u8 s.heat.header.code
  else if i = srcZones then s.zonesView
  else if i = srcGlue then s.glueView
  else if i = srcSlitter then s.slitterView
  else if i = srcStacker then s.stackerView
  else s.limitView

/-- R205: the data of a source's notice. -/
def State.noticeData (s : State) (i : NoticeSource) : List Byte :=
  if isCondition i then s.conditionView i
  else match tget s.notices.data i with | some d => d.enc | none => []

/-- R196: the payload of a source's notice: source, level (0 for ESTOP), count (0 for a condition), data. -/
def State.noticePayload (s : State) (i : NoticeSource) : List Byte :=
  u8 i.val ++ u8 (if i = srcEstop then 0 else tget s.notices.levels i) ++
    u8 (if isCondition i then 0 else tget s.notices.counts i) ++ s.noticeData i

/-- R202: the better of two sendable sources: the lower level, then the lower number. -/
def Notices.better (u : Notices) (i j : NoticeSource) : NoticeSource :=
  if tget u.levels j < tget u.levels i then j else i

/-- R202: the source chosen among the sendable ones: ESTOP when pending, else the lowest level, then the lowest number. -/
def Notices.choose (u : Notices) : Option NoticeSource :=
  if tget u.waiting srcEstop then some srcEstop
  else
    match allSources.filter u.sendable with
    | [] => none
    | i :: l => some (l.foldl u.better i)

/-- R202: a source whose notice is made is no longer pending. -/
def Notices.clear (u : Notices) (i : NoticeSource) : Notices :=
  { u with waiting := tset u.waiting i false, counts := tset u.counts i 0, data := tset u.data i none }

/-- R196, R202: the transmitter begins the notice of a source. -/
def State.makeNotice (s : State) (i : NoticeSource) : State :=
  let f : Frame := { kind := 0x80#8, tag := s.link.seq, payload := s.noticePayload i }
  { s with notices := s.notices.clear i, link := { s.link with tx := .notice f, seq := s.link.seq + 1 } }

/-- R195, R202: while the transmitter is IDLE a sendable source is offered and sent. -/
def State.offerNotice (s : State) : State :=
  match s.link.tx with
  | .idle => match s.notices.choose with | some i => s.makeNotice i | none => s
  | _ => s

/-- R203: a source takes a level. -/
def Notices.setLevel (u : Notices) (i : NoticeSource) (level : Nat) : Notices :=
  let u1 := { u with levels := tset u.levels i level }
  if level = 7 then u1.clear i
  else if isCondition i ∧ tget u.levels i = 7 then { u1 with waiting := tset u1.waiting i true }
  else u1

/-- R203: SET_LEVEL. -/
def State.reqSetLevel (s : State) (source level : Nat) : State × Reply :=
  if h : source < 22 then
    if source = 0 ∨ 7 < level then (s, .just .badValue)
    else
      let u := s.notices.setLevel ⟨source, h⟩ level
      ({ s with notices := u }, .okWith (u8 source ++ u8 level ++ encBool (tget u.waiting ⟨source, h⟩)))
  else (s, .just .badValue)

/-- R204: SET_THRESHOLD. -/
def State.reqSetThreshold (s : State) (threshold : Nat) : State × Reply :=
  if 7 < threshold then (s, .just .badValue)
  else
    let u := { s.notices with threshold := threshold }
    ({ s with notices := u }, .okWith (u8 threshold ++ u32 u.held.length))

end Sys2Proof.Machine
end

