-- ==== Sys2Proof/Machine/Linking.lean ====
section
/-! DEFINITION. The Line Link (chapter 11): the receiver, the receive queue, the request in hand, replies and the transmitter,
and the resets of the part. -/

namespace Sys2Proof.Machine

/-! ### Replies and the transmitter (R192, R194, R195) -/

/-- R195: a reply is sent at once while the transmitter is IDLE, and waits otherwise. -/
def Link.sendReply (l : Link) (f : Frame) : Link :=
  match l.tx with
  | .idle => { l with tx := .reply f }
  | _ => { l with waiting := l.waiting ++ [f] }

/-- R192, R194: a request of a kind and tag is taken in hand, its owner acts on it, and its reply is made. A request given while
another is in hand leaves that one in hand (log 10). -/
def State.serve (kind tag : Byte) (owner : State → State × Reply) (s : State) : State :=
  let s1 := { s with link := { s.link with inHand := some (s.link.inHand.getD (kind, tag)) } }
  let r := owner s1
  { r.1 with link := r.1.link.sendReply (r.2.frame kind tag) }

/-- R192: with no request in hand, the oldest frame of the queue is taken in hand. -/
def State.takeNext (s : State) : State :=
  match s.link.inHand, s.link.queue with
  | none, f :: l => { s with link := { s.link with inHand := some (f.kind, f.tag), queue := l } }.post (.request f)
  | _, _ => s

/-- R195: the transmitter, its frame gone, sends a waiting reply, or is IDLE. -/
def Link.nextReply (l : Link) : Link :=
  match l.waiting with
  | f :: w => { l with tx := .reply f, waiting := w }
  | [] => { l with tx := .idle }

/-- R192, R195: the last byte of a frame has gone. At the end of a reply the next request may be answered before or after the
transmitter asks for a notice: a free choice (log 11). -/
def State.takeLastByte (s : State) : State :=
  match s.link.tx with
  | .idle => s
  | .notice _ => { s with link := s.link.nextReply }
  | .reply _ =>
    let s1 := { s with link := { s.link.nextReply with inHand := none } }
    if s.link.queue.isEmpty then s1
    else if Config.pick s.choice % 2 = 0 then ({ s1 with choice := s.choice + 1 }).takeNext
    else ({ s1 with choice := s.choice + 1 }).offerNotice.takeNext

/-! ### The receiver (R188 to R191) -/

/-- The payload length a frame in reception gives: its two length bytes. -/
def frameLength (bs : List Byte) : Nat :=
  (match bs[1]? with | some b => b.toNat | none => 0) + 256 * (match bs[2]? with | some b => b.toNat | none => 0)

/-- A frame read from its bytes. -/
def frameOf (bs : List Byte) : Frame :=
  { kind := bs[3]?.getD 0, tag := bs[4]?.getD 0, payload := (bs.drop 5).take (frameLength bs) }

/-- R190: the LINK event of a discarded frame. -/
def State.discard (s : State) (cause : LinkCause) (bs : List Byte) : State :=
  s.raise srcLink (.link cause bs[3]? bs[4]?)

/-- R191: a good frame is offered to the receive queue. -/
def State.offerFrame (s : State) (f : Frame) : State :=
  if s.link.queue.length < Config.queueRoom then
    { s with link := { s.link with queue := s.link.queue ++ [f] } }.takeNext
  else s.raise srcLink (.link .overrun (some f.kind) (some f.tag))

/-- What one byte does to the frame in reception (R189): goes on, is discarded with a cause, or is complete and good. -/
inductive RxStep
  | on (st : RxState) (bs : List Byte)
  | drop (cause : LinkCause) (bs : List Byte)
  | good (bs : List Byte)
deriving DecidableEq, Repr

/-- R189, R190: a whole frame is good when its check agrees. -/
def checkAgrees (bs : List Byte) : Bool :=
  let n := frameLength bs
  decide ((bs.drop (5 + n)).take 2 = u16 (crc16 ((bs.drop 1).take (4 + n))).toNat)

/-- R189: one byte taken by the receiver's state. -/
def rxStep (st : RxState) (bs : List Byte) (b : Byte) : RxStep :=
  let all := bs ++ [b]
  match st with
  | .hunting => if b = 0x5A#8 then .on .header [b] else .on .hunting []
  | .header =>
    if all.length = 3 ∧ Config.maxPayload < frameLength all then .drop .length all
    else if all.length = 5 then (if frameLength all = 0 then .on .check all else .on .payload all)
    else .on .header all
  | .payload => if all.length = 5 + frameLength all then .on .check all else .on .payload all
  | .check =>
    if all.length = 7 + frameLength all then (if checkAgrees all then .good all else .drop .check all) else .on .check all

/-- The receiver's state and the bytes of the frame in hand. -/
def State.setRx (s : State) (st : RxState) (bs : List Byte) : State :=
  { s with link := { s.link with rxState := st, rxBytes := bs } }

/-- R189, R190: the receiver takes bytes in order; the bytes after the lead of a frame discarded with cause LENGTH or CHECK are
taken again before any later byte. The fuel covers every such return (log 31). -/
def State.receive : Nat → List Byte → State → State
  | 0, _, s => s
  | _ + 1, [], s => s
  | fuel + 1, b :: l, s =>
    match rxStep s.link.rxState s.link.rxBytes b with
    | .on st bs => State.receive fuel l (s.setRx st bs)
    | .good bs => State.receive fuel l ((s.setRx .hunting []).offerFrame (frameOf bs))
    | .drop cause bs => State.receive fuel (bs.drop 1 ++ l) ((s.setRx .hunting []).discard cause bs)

/-- R190: fuel enough for a byte and all that is taken again. -/
def State.rxFuel (s : State) : Nat := (s.link.rxBytes.length + 2) * (s.link.rxBytes.length + 3)

/-- R188, R189: a byte is received, its stop bit high or low. -/
def State.takeByte (s : State) (b : Byte) (stopHigh : Bool) : State :=
  if stopHigh then State.receive s.rxFuel [b] s
  else if s.link.rxState = .hunting then s
  else (s.setRx .hunting []).discard .framing s.link.rxBytes

/-- R189: the gap timer expires. -/
def State.takeGap (s : State) : State :=
  if s.link.rxState = .hunting then s else (s.setRx .hunting []).discard .gap s.link.rxBytes

/-! ### Resets (R186, R198, R206) -/

/-- R188: the rate of two straps. -/
def rateOf (strap1 strap2 : Bool) : Rate :=
  match strap1, strap2 with
  | false, false => .r115200
  | false, true => .r460800
  | true, false => .r1000000
  | true, true => .r2000000

/-- R186, R188, R198, R206: power-on with the straps and input levels given. The waiting commands and the counter of free
values are the model's own and are kept. -/
def State.powerOn (s : State) (strap1 strap2 estop pressure : Bool) : State :=
  let s1 := { State.reset with
    pending := s.pending, choice := s.choice, heat := Heat.resetWith pressure, gov := Governor.resetWith false,
    link := Link.resetWith (rateOf strap1 strap2) }
  if estop then s1.takeAssert else s1

/-- R63, R77: a station at RESET_PART: its heads are left where they stand. -/
def StationRec.resetPart (r : StationRec) : StationRec := StationRec.resetWith r.slitHeads r.scoreHeads

/-- R186, R198: every block takes the reset; the link, the input levels and the heads are kept. Of the condition sources LINE_MODE
alone is marked after the Notice Unit's reset (R206): what the resets of the other blocks change (a station to IDLE, R78; rolls to EMPTY,
a FAULTED stand to OPERATING, a limit to inactive, R110; the header to OFF, R154) marks none (DESIGN CHOICE, log 51). -/
def State.resetPart (s : State) : State :=
  { State.reset with
    pending := s.pending, choice := s.choice, link := s.link, heat := Heat.resetWith s.heat.pressureOk,
    gov := Governor.resetWith s.gov.estopLine,
    slitter := { Slitter.reset with
      stationA := s.slitter.stationA.resetPart, stationB := s.slitter.stationB.resetPart } }

/-- R186, R198: RESET_PART. -/
def State.reqResetPart (s : State) : State × Reply :=
  if s.gov.mode = .running ∨ s.gov.mode = .stopping then (s, .just .wrongMode)
  else (s.resetPart, .okWith (u8 (Mode.code .unconfigured)))

end Sys2Proof.Machine
end

