-- ==== Sys2Proof/Decode.lean ====
section
/-! DEFINITION. Decoding. The table gives no row any bits, so no word spells a command; a command of the host is spelled by a
request frame (R192, R193, section 11.6), which this file reads and writes: the kind codes, the decoder of a request's
payload, total on any bytes, and after it the encoder. -/

namespace Sys2Proof

/-- The command that a word spells by the table's bits: the table gives none, so none. -/
def decodeTableWord (_nbits _w : Nat) : Option Instr := none

namespace Machine

/-! ### Reading fields (R193) -/

/-- A reader of fields: the value and the bytes left, or none when the payload is too short or a presence byte is neither 0
nor 1. -/
abbrev Reader (α : Type) := List Byte → Option (α × List Byte)

/-- A number of 1 byte. -/
def rd8 : Reader Nat
  | a :: l => some (a.toNat, l)
  | [] => none

/-- A number of 2 bytes, low byte first. -/
def rd16 : Reader Nat
  | a :: b :: l => some (a.toNat + 256 * b.toNat, l)
  | _ => none

/-- A number of 4 bytes, low byte first. -/
def rd32 : Reader Nat
  | a :: b :: c :: d :: l => some (a.toNat + 256 * b.toNat + 65536 * c.toNat + 16777216 * d.toNat, l)
  | _ => none

/-- A signed number of 2 bytes. -/
def rdI16 : Reader Int := fun l => (rd16 l).map (fun r => ((BitVec.ofNat 16 r.1).toInt, r.2))

/-- A number of 2 bytes, as an integer. -/
def rdN16 : Reader Int := fun l => (rd16 l).map (fun r => ((r.1 : Int), r.2))

/-- A knife position. -/
def rdPos : Reader Pos := fun l => (rd32 l).map (fun r => (BitVec.ofNat 32 r.1, r.2))

/-- An optional field. -/
def rdOpt {α : Type} (f : Reader α) : Reader (Option α) := fun l =>
  match rd8 l with
  | none => none
  | some (p, l1) =>
    if p = 0 then some (none, l1)
    else if p = 1 then (f l1).map (fun r => (some r.1, r.2))
    else none

/-- A fixed number of like fields. -/
def rdMany {α : Type} (f : Reader α) : Nat → Reader (List α)
  | 0 => fun l => some ([], l)
  | k + 1 => fun l =>
    match f l with
    | none => none
    | some (x, l1) => (rdMany f k l1).map (fun r => (x :: r.1, r.2))

/-- A list: a count byte, then the entries. -/
def rdList {α : Type} (f : Reader α) : Reader (List α) := fun l =>
  match rd8 l with
  | none => none
  | some (k, l1) => rdMany f k l1

/-- A table of one length. -/
def rdTable {α : Type} (f : Reader α) : (n : Nat) → Reader (Vector α n)
  | 0 => fun l => some (#v[], l)
  | n + 1 => fun l =>
    match rdTable f n l with
    | none => none
    | some (v, l1) => (f l1).map (fun r => (v.push r.1, r.2))

/-- Read one field and go on with the rest. -/
def andThen {α β : Type} (f : Reader α) (g : α → Reader β) : Reader β := fun l =>
  match f l with
  | none => none
  | some (x, l1) => g x l1

/-- Answer a value without reading. -/
def done {α : Type} (x : α) : Reader α := fun l => some (x, l)

/-! ### Records -/

/-- The fields of one zone across the tables of a grade record. -/
def zipZones (sp : Vector Nat 12) (bands : Vector (Nat × Nat) 12) (base : Vector Nat 12) : Vector ZoneRecipe 12 :=
  Vector.ofFn (fun z =>
    { setpoint := tget sp z, low := (tget bands z).1, high := (tget bands z).2, base := tget base z })

/-- A pair of fields of 2 bytes. -/
def rdPair : Reader (Nat × Nat) := andThen rd16 fun a => andThen rd16 fun b => done (a, b)

/-- A breakpoint. -/
def rdBreakpoint : Reader Breakpoint := andThen rd16 fun v => andThen rd16 fun g => done { speed := v, gap := g }

/-- A grade record (section 2.1, log 13). -/
def rdGrade : Reader Grade :=
  andThen (rdTable rd8 7) fun kinds => andThen (rdTable rd16 12) fun sp => andThen (rdTable rdPair 12) fun bands =>
  andThen (rdTable rd16 12) fun base => andThen (rdTable (rdTable rdBreakpoint 4) 4) fun glue => andThen rd16 fun cap =>
  done { kinds := kinds, zones := zipZones sp bands base, glue := glue, cap := cap }

/-- An order record (section 2.2). -/
def rdOrder : Reader OrderSpec :=
  andThen rd32 fun id => andThen rd8 fun grade => andThen rd32 fun len => andThen rd32 fun ordered =>
  andThen rd16 fun allowance => andThen rd16 fun size => andThen rd16 fun width => andThen (rdList rd16) fun slits =>
  andThen (rdList rd16) fun scores => andThen (rdOpt rd16) fun cap => andThen (rdOpt rd8) fun interval =>
  done { id := id, grade := grade, len := len, ordered := ordered, allowance := allowance, stackSize := size,
         width := width, slits := slits, scores := scores, cap := cap, interval := interval }

/-- The roll fields (section 6.2). -/
def rdRoll : Reader RollSpec :=
  andThen rd32 fun id => andThen rd8 fun kind => andThen rd16 fun width => andThen rd16 fun diameter =>
  andThen rd8 fun core => andThen rd16 fun caliper =>
  done { id := id, kind := kind, width := width, diameter := diameter, core := core, caliper := caliper }

/-- The GEOMETRY section (section 11.6). -/
def rdGeometry : Reader Geometry :=
  andThen rd16 fun cpm => andThen rd32 fun dFreeze => andThen rd16 fun hs => andThen rd32 fun dSlit =>
  andThen rd32 fun wSlit => andThen rd32 fun dGate => andThen rd32 fun dStack => andThen (rdTable rd32 7) fun dStand =>
  andThen (rdTable rd32 12) fun dZone => andThen (rdTable rd32 4) fun dGlue =>
  done { cpm := cpm, dFreeze := dFreeze, headSpacing := hs, dSlit := dSlit, wSlit := wSlit, dGate := dGate,
         dStack := dStack, dStand := dStand, dZone := dZone, dGlue := dGlue }

/-- The STANDS fields of one stand. -/
def rdStandCfg : Reader StandCfg :=
  andThen rd16 fun takeup => andThen rd16 fun reserve => andThen rd8 fun minRun => andThen rd16 fun tPaste =>
  andThen rd16 fun tCut => andThen rd16 fun tTransfer => andThen rd32 fun off => andThen rd32 fun app =>
  andThen rd32 fun gb => andThen rd32 fun sl => andThen rd32 fun ga =>
  done { takeup := takeup, reserve := reserve, minRun := minRun, tPaste := tPaste, tCut := tCut, tTransfer := tTransfer,
         spliceOffset := off, wApproach := app, guardBefore := gb, spliceLen := sl, guardAfter := ga }

/-- The DRYEND section. -/
def rdDryEnd : Reader DryEnd :=
  andThen rd16 fun kMin => andThen rd16 fun cMax => andThen rd32 fun waste => andThen rd16 fun cycle =>
  andThen rd8 fun setTime => andThen rd8 fun warn =>
  done { kMin := kMin, cMax := cMax, wasteLen := waste, knifeCycle := cycle, setTime := setTime, fingerWarn := warn }

/-- A scaling whose fields are signed (channels 0..11). -/
def rdProbe : Reader Scaling := andThen rdI16 fun lo => andThen rdI16 fun hi => done { lo := lo, hi := hi }

/-- A scaling whose fields are unsigned (channels 12..15). -/
def rdSensor : Reader Scaling := andThen rdN16 fun lo => andThen rdN16 fun hi => done { lo := lo, hi := hi }

/-- The gains of one zone. -/
def rdGains : Reader Gains := andThen rd8 fun kp => andThen rd8 fun ki => done { kp := kp, ki := ki }

/-- The ZONES section. -/
def rdZones : Reader ZonesCfg :=
  andThen rd8 fun scanDiv => andThen (rdTable rdProbe 12) fun probes => andThen (rdTable rdSensor 4) fun sensors =>
  andThen (rdTable rdGains 12) fun gains => andThen rd8 fun hold => andThen rd8 fun grace => andThen rd16 fun slow =>
  andThen rd16 fun settle => andThen rd16 fun gmin => andThen rd16 fun gmax => andThen rd8 fun dead =>
  andThen rd8 fun tol => andThen rd8 fun move =>
  done { scanDiv := scanDiv, channels := probes ++ sensors, gains := gains, probeHold := hold, heatGrace := grace,
         heatSlow := slow, supplySettle := settle, gapMin := gmin, gapMax := gmax, gapDeadband := dead, gapTol := tol,
         gapMoveTime := move }

/-- The GOVERNOR section. -/
def rdGovernor : Reader GovCfg :=
  andThen rd8 fun accel => andThen rd8 fun decel => andThen rd16 fun fast => andThen rd16 fun crawl =>
  andThen rd16 fun splice => andThen rd16 fun lift =>
  done { accelStep := accel, decelStep := decel, fastStep := fast, crawlSpeed := crawl, spliceSpeed := splice,
         glueLift := lift }

/-- What CONFIGURE carries; under a code other than the five the fields have no layout (R172 check 1). -/
def rdSection : Reader Section :=
  andThen rd8 fun code =>
    match code with
    | 0 => andThen rdGeometry fun g => done (.geometry g)
    | 1 => andThen (rdTable rdStandCfg 7) fun v => done (.stands v)
    | 2 => andThen rdDryEnd fun d => done (.dryend d)
    | 3 => andThen rdZones fun z => done (.zones z)
    | 4 => andThen rdGovernor fun g => done (.governor g)
    | k => fun _ => some (.other k, [])

/-! ### Requests (section 11.6) -/

/-- The reader of the fields of a request kind; none for a kind not in the request list. -/
def readerOf (kind tag : Byte) : Option (Reader Instr) :=
  match kind.toNat with
  | 0x01 => some (andThen rdSection fun sec => done (.configure tag sec))
  | 0x02 => some (done (.run tag))
  | 0x03 => some (done (.stop tag))
  | 0x04 => some (andThen rd16 fun v => done (.setSpeed tag v))
  | 0x05 => some (done (.resume tag))
  | 0x06 => some (done (.resetPart tag))
  | 0x07 => some (done (.readLine tag))
  | 0x10 => some (andThen rdPos fun a => andThen rdPos fun b => done (.addReject tag a b))
  | 0x11 => some (done (.readMap tag))
  | 0x18 => some (andThen rd8 fun c => andThen rdGrade fun g => done (.setGrade tag c g))
  | 0x19 => some (andThen rd8 fun c => done (.readGrade tag c))
  | 0x1A => some (andThen rdOrder fun o => done (.addOrder tag o))
  | 0x1B => some (andThen rd32 fun id => andThen rd32 fun n => andThen rd16 fun a => done (.changeCount tag id n a))
  | 0x1C => some (andThen rd32 fun id => done (.cancelOrder tag id))
  | 0x1D => some (andThen rd32 fun id => done (.readOrder tag id))
  | 0x1E => some (done (.listOrders tag))
  | 0x1F => some (done (.readCompleted tag))
  | 0x20 => some (done (.holdKnife tag))
  | 0x21 => some (done (.releaseKnife tag))
  | 0x22 => some (done (.readKnife tag))
  | 0x28 => some (andThen rd8 fun c => done (.clearStation tag c))
  | 0x29 => some (done (.readSlitter tag))
  | 0x30 => some (done (.readStacker tag))
  | 0x38 => some (andThen rd8 fun n => andThen rd8 fun m => andThen rdRoll fun r => done (.loadRoll tag n m r))
  | 0x39 => some (andThen rd8 fun n => andThen rd8 fun m => done (.markReady tag n m))
  | 0x3A => some (andThen rd8 fun n => andThen rd8 fun m => done (.unloadRoll tag n m))
  | 0x3B => some (andThen rd8 fun n => andThen rd8 fun m => done (.thread tag n m))
  | 0x3C => some (andThen rd8 fun n => andThen (rdOpt rd8) fun m => done (.clearStand tag n m))
  | 0x3D => some (andThen rd8 fun n => done (.readStand tag n))
  | 0x40 => some (andThen rd8 fun n => done (.spliceNow tag n))
  | 0x41 => some (andThen rd8 fun n => done (.cancelSplice tag n))
  | 0x42 => some (andThen rd8 fun n => done (.readSplice tag n))
  | 0x48 => some (andThen rd8 fun x => done (.setSupply tag x))
  | 0x49 => some (andThen rd8 fun z => andThen rd8 fun x => done (.enableZone tag z x))
  | 0x4A => some (done (.readZones tag))
  | 0x50 => some (andThen rd8 fun u => done (.clearGlue tag u))
  | 0x51 => some (done (.readGlue tag))
  | 0x58 => some (andThen rd8 fun i => andThen rd8 fun v => done (.setLevel tag i v))
  | 0x59 => some (andThen rd8 fun v => done (.setThreshold tag v))
  | 0x60 => some (done (.readSummary tag))
  | _ => none

/-- R192: the command a request frame spells, or the status the Line Link answers: the kind is checked first, then the
layout. -/
def decodeRequest (f : Frame) : Except Status Instr :=
  match readerOf f.kind f.tag with
  | none => .error .unknownRequest
  | some r =>
    match r f.payload with
    | some (i, []) => .ok i
    | _ => .error .badLength

/-! ### The encoder -/

/-- The GEOMETRY fields. -/
def Geometry.enc (g : Geometry) : List Byte :=
  u16 g.cpm ++ u32 g.dFreeze ++ u16 g.headSpacing ++ u32 g.dSlit ++ u32 g.wSlit ++ u32 g.dGate ++ u32 g.dStack ++
    encTable u32 g.dStand ++ encTable u32 g.dZone ++ encTable u32 g.dGlue

/-- The STANDS fields of one stand. -/
def StandCfg.enc (c : StandCfg) : List Byte :=
  u16 c.takeup ++ u16 c.reserve ++ u8 c.minRun ++ u16 c.tPaste ++ u16 c.tCut ++ u16 c.tTransfer ++ u32 c.spliceOffset ++
    u32 c.wApproach ++ u32 c.guardBefore ++ u32 c.spliceLen ++ u32 c.guardAfter

/-- The DRYEND fields. -/
def DryEnd.enc (d : DryEnd) : List Byte :=
  u16 d.kMin ++ u16 d.cMax ++ u32 d.wasteLen ++ u16 d.knifeCycle ++ u8 d.setTime ++ u8 d.fingerWarn

/-- The ZONES fields. -/
def ZonesCfg.enc (z : ZonesCfg) : List Byte :=
  u8 z.scanDiv ++ encTable (fun c => i16 c.lo ++ i16 c.hi) z.channels ++ encTable (fun g => u8 g.kp ++ u8 g.ki) z.gains ++
    u8 z.probeHold ++ u8 z.heatGrace ++ u16 z.heatSlow ++ u16 z.supplySettle ++ u16 z.gapMin ++ u16 z.gapMax ++
    u8 z.gapDeadband ++ u8 z.gapTol ++ u8 z.gapMoveTime

/-- The GOVERNOR fields. -/
def GovCfg.enc (g : GovCfg) : List Byte :=
  u8 g.accelStep ++ u8 g.decelStep ++ u16 g.fastStep ++ u16 g.crawlSpeed ++ u16 g.spliceSpeed ++ u16 g.glueLift

/-- The section code and its fields. -/
def Section.enc : Section → List Byte
  | .geometry g => u8 0 ++ Geometry.enc g
  | .stands v => u8 1 ++ encTable StandCfg.enc v
  | .dryend d => u8 2 ++ DryEnd.enc d
  | .zones z => u8 3 ++ ZonesCfg.enc z
  | .governor g => u8 4 ++ GovCfg.enc g
  | .other k => u8 k

/-- The request frame of a command, none for a command that is not a request of the list (section 11.6). -/
def encodeRequest : Instr → Option Frame
  | .configure t sec => some { kind := 0x01, tag := t, payload := Section.enc sec }
  | .run t => some { kind := 0x02, tag := t, payload := [] }
  | .stop t => some { kind := 0x03, tag := t, payload := [] }
  | .setSpeed t v => some { kind := 0x04, tag := t, payload := u16 v }
  | .resume t => some { kind := 0x05, tag := t, payload := [] }
  | .resetPart t => some { kind := 0x06, tag := t, payload := [] }
  | .readLine t => some { kind := 0x07, tag := t, payload := [] }
  | .addReject t a b => some { kind := 0x10, tag := t, payload := encPos a ++ encPos b }
  | .readMap t => some { kind := 0x11, tag := t, payload := [] }
  | .setGrade t c g => some { kind := 0x18, tag := t, payload := u8 c ++ Grade.enc g }
  | .readGrade t c => some { kind := 0x19, tag := t, payload := u8 c }
  | .addOrder t o => some { kind := 0x1A, tag := t, payload := OrderSpec.enc o }
  | .changeCount t id n a => some { kind := 0x1B, tag := t, payload := u32 id ++ u32 n ++ u16 a }
  | .cancelOrder t id => some { kind := 0x1C, tag := t, payload := u32 id }
  | .readOrder t id => some { kind := 0x1D, tag := t, payload := u32 id }
  | .listOrders t => some { kind := 0x1E, tag := t, payload := [] }
  | .readCompleted t => some { kind := 0x1F, tag := t, payload := [] }
  | .holdKnife t => some { kind := 0x20, tag := t, payload := [] }
  | .releaseKnife t => some { kind := 0x21, tag := t, payload := [] }
  | .readKnife t => some { kind := 0x22, tag := t, payload := [] }
  | .clearStation t c => some { kind := 0x28, tag := t, payload := u8 c }
  | .readSlitter t => some { kind := 0x29, tag := t, payload := [] }
  | .readStacker t => some { kind := 0x30, tag := t, payload := [] }
  | .loadRoll t n m r => some { kind := 0x38, tag := t, payload := u8 n ++ u8 m ++ RollSpec.enc r }
  | .markReady t n m => some { kind := 0x39, tag := t, payload := u8 n ++ u8 m }
  | .unloadRoll t n m => some { kind := 0x3A, tag := t, payload := u8 n ++ u8 m }
  | .thread t n m => some { kind := 0x3B, tag := t, payload := u8 n ++ u8 m }
  | .clearStand t n m => some { kind := 0x3C, tag := t, payload := u8 n ++ encOpt u8 m }
  | .readStand t n => some { kind := 0x3D, tag := t, payload := u8 n }
  | .spliceNow t n => some { kind := 0x40, tag := t, payload := u8 n }
  | .cancelSplice t n => some { kind := 0x41, tag := t, payload := u8 n }
  | .readSplice t n => some { kind := 0x42, tag := t, payload := u8 n }
  | .setSupply t x => some { kind := 0x48, tag := t, payload := u8 x }
  | .enableZone t z x => some { kind := 0x49, tag := t, payload := u8 z ++ u8 x }
  | .readZones t => some { kind := 0x4A, tag := t, payload := [] }
  | .clearGlue t u => some { kind := 0x50, tag := t, payload := u8 u }
  | .readGlue t => some { kind := 0x51, tag := t, payload := [] }
  | .setLevel t i v => some { kind := 0x58, tag := t, payload := u8 i ++ u8 v }
  | .setThreshold t v => some { kind := 0x59, tag := t, payload := u8 v }
  | .readSummary t => some { kind := 0x60, tag := t, payload := [] }
  | .powerOn _ _ _ _ => none
  | .forwardCount => none
  | .reverseCount => none
  | .governorPeriodExpiry => none
  | .planRefreshExpiry => none
  | .zonePeriodExpiry => none
  | .knifeCycleExpiry => none
  | .setTimerExpiry _ => none
  | .setDone _ => none
  | .pasteFail _ => none
  | .cutFail _ => none
  | .transferExpiry _ => none
  | .pasted _ => none
  | .cutInput _ => none
  | .webLost _ => none
  | .prepared _ => none
  | .transferDone => none
  | .stackTaken => none
  | .arrived _ => none
  | .moveTimerExpiry _ => none
  | .pressureOkChange _ => none
  | .settleExpiry => none
  | .conversionComplete _ => none
  | .holdExpiry _ => none
  | .belowTimerExpiry _ => none
  | .estopAssert => none
  | .estopRelease => none
  | .byteReceived _ _ => none
  | .gapTimerExpiry => none
  | .lastByteSent => none
  | .unknownRequest _ _ => none

end Machine
end Sys2Proof
end

