-- ==== Sys2Proof/Machine/Cascade.lean ====
section
/-! DEFINITION. The events between blocks inside one step (log 2): what each event does at the block that takes it, the taking
of all events of a step in order, and the end of a step. -/

namespace Sys2Proof.Machine

/-! ### Requests of the list, handed to their owners (R192) -/

/-- R192: the owner of a request takes it and answers. What is no request of the list is answered UNKNOWN_REQUEST. -/
def State.answer (s : State) : Instr → State × Reply
  | .configure _ sec => s.reqConfigure sec
  | .run _ => s.reqRun
  | .stop _ => s.reqStop
  | .setSpeed _ v => s.reqSetSpeed v
  | .resume _ => s.reqResume
  | .resetPart _ => s.reqResetPart
  | .readLine _ => s.reqReadLine
  | .addReject _ a b => s.reqAddReject a b
  | .readMap _ => s.reqReadMap
  | .setGrade _ c g => s.reqSetGrade c g
  | .readGrade _ c => s.reqReadGrade c
  | .addOrder _ o => s.reqAddOrder o
  | .changeCount _ id n a => s.reqChangeCount id n a
  | .cancelOrder _ id => s.reqCancelOrder id
  | .readOrder _ id => s.reqReadOrder id
  | .listOrders _ => s.reqListOrders
  | .readCompleted _ => s.reqReadCompleted
  | .holdKnife _ => s.reqHoldKnife
  | .releaseKnife _ => s.reqReleaseKnife
  | .readKnife _ => s.reqReadKnife
  | .clearStation _ c => s.reqClearStation c
  | .readSlitter _ => s.reqReadSlitter
  | .readStacker _ => s.reqReadStacker
  | .loadRoll _ n m r => s.reqLoadRoll n m r
  | .markReady _ n m => s.reqMarkReady n m
  | .unloadRoll _ n m => s.reqUnloadRoll n m
  | .thread _ n m => s.reqThread n m
  | .clearStand _ n m => s.reqClearStand n m
  | .readStand _ n => s.reqReadStand n
  | .spliceNow _ n => s.reqSpliceNow n
  | .cancelSplice _ n => s.reqCancelSplice n
  | .readSplice _ n => s.reqReadSplice n
  | .setSupply _ x => s.reqSetSupply x
  | .enableZone _ z x => s.reqEnableZone z x
  | .readZones _ => s.reqReadZones
  | .clearGlue _ u => s.reqClearGlue u
  | .readGlue _ => s.reqReadGlue
  | .setLevel _ i v => s.reqSetLevel i v
  | .setThreshold _ v => s.reqSetThreshold v
  | .readSummary _ => s.reqReadSummary
  | .powerOn _ _ _ _ => (s, .just .unknownRequest)
  | .forwardCount => (s, .just .unknownRequest)
  | .reverseCount => (s, .just .unknownRequest)
  | .governorPeriodExpiry => (s, .just .unknownRequest)
  | .planRefreshExpiry => (s, .just .unknownRequest)
  | .zonePeriodExpiry => (s, .just .unknownRequest)
  | .knifeCycleExpiry => (s, .just .unknownRequest)
  | .setTimerExpiry _ => (s, .just .unknownRequest)
  | .setDone _ => (s, .just .unknownRequest)
  | .pasteFail _ => (s, .just .unknownRequest)
  | .cutFail _ => (s, .just .unknownRequest)
  | .transferExpiry _ => (s, .just .unknownRequest)
  | .pasted _ => (s, .just .unknownRequest)
  | .cutInput _ => (s, .just .unknownRequest)
  | .webLost _ => (s, .just .unknownRequest)
  | .prepared _ => (s, .just .unknownRequest)
  | .transferDone => (s, .just .unknownRequest)
  | .stackTaken => (s, .just .unknownRequest)
  | .arrived _ => (s, .just .unknownRequest)
  | .moveTimerExpiry _ => (s, .just .unknownRequest)
  | .pressureOkChange _ => (s, .just .unknownRequest)
  | .settleExpiry => (s, .just .unknownRequest)
  | .conversionComplete _ => (s, .just .unknownRequest)
  | .holdExpiry _ => (s, .just .unknownRequest)
  | .belowTimerExpiry _ => (s, .just .unknownRequest)
  | .estopAssert => (s, .just .unknownRequest)
  | .estopRelease => (s, .just .unknownRequest)
  | .byteReceived _ _ => (s, .just .unknownRequest)
  | .gapTimerExpiry => (s, .just .unknownRequest)
  | .lastByteSent => (s, .just .unknownRequest)
  | .unknownRequest _ _ => (s, .just .unknownRequest)

/-- R192: a request in hand is checked, handed to its owner, and answered. A request the link itself answers (UNKNOWN_REQUEST,
BAD_LENGTH) has no reply field; a RESUME answered BAD_LENGTH does not give the line mode (DESIGN CHOICE, log 52). -/
def State.takeRequest (s : State) (f : Frame) : State :=
  s.serve f.kind f.tag (fun t =>
    match decodeRequest f with
    | .ok i => t.answer i
    | .error st => (t, .just st))

/-! ### Events -/

/-- R2: a crossing is taken at the block that registered it. -/
def State.takeCrossing (s : State) (p : Purpose) (at_ : Pos) : State :=
  match p with
  | .freeze => s.updateFreeze
  | .cut => s.takeCut at_
  | .slitWindow => s.takeSlitWindow
  | .slitTrigger => s.takeSlitTrigger
  | .gate => s.takeGate
  | .stackPoint => s.takeLanding
  | .approach n => s.takeApproach n
  | .spliceTrigger n => s.takeSpliceTrigger n
  | .zone z => s.takeZoneCommit z
  | .glue u => s.takeGlueCommit u

/-- R176: a mode entry is taken at the blocks in the order of R176's list (log 2). -/
def State.takeModeEntry (s : State) (before after : Mode) : State :=
  ((((((s.knifeModeEntry before after).slitModeEntry before after).stackModeEntry before after).standsModeEntry
    ).spliceModeEntry before after).glueModeEntry after)

/-- An event is taken at its block. -/
def State.handle (s : State) : Ev → State
  | .crossing p q => s.takeCrossing p q
  | .decrement n => s.takeDecrement n
  | .motionSet => s.takeMotion
  | .mapChange => s.placementPass
  | .orderChange => s.slitOrderChange
  | .headStart => s.takeHeadStart
  | .endFrozen => s.rateNow
  | .handover n b kind id => s.takeHandover n b kind id
  | .recipes b g => s.takeRecipes b g
  | .startReport id => s.takeStartReport id
  | .positionReport id isEnd => s.takePositionReport id isEnd
  | .sheetReport id m cls long => s.takeSheetReport id m cls long
  | .sheet r => s.takeSheet r
  | .goodReport id => s.takeGoodReport id
  | .overflowReport id => s.takeOverflowReport id
  | .stackReport id => s.takeStackReport id
  | .endReport id => s.takeEndReport id
  | .runOut => s.takeRunOut
  | .accepted => s.takeAccepted
  | .modeEntry before after => s.takeModeEntry before after
  | .halt n c => s.takeHalt n c
  | .webLoss n => s.takeWebLoss n
  | .cleared n => s.takeCleared n
  | .expiry n => s.takeExpiry n
  | .rollReady n => s.takeRollReady n
  | .minRun n => s.takeMinRun n
  | .owedWork n withWait => s.takeOwedWork n withWait
  | .publish => s.takePublish
  | .govStep => s.takeGovStep
  | .glueTargets => s.each allUnits State.computeTarget
  | .governorAccepted => s.pasteTests.glueTests
  | .request f => s.takeRequest f

/-- Take the events of a step, the oldest first, each followed by the owners setting their limits (log 2, 5, 18). -/
def State.drain : Nat → State → State
  | 0, s => s
  | fuel + 1, s =>
    match s.inbox with
    | [] => s
    | e :: l => State.drain fuel (({ s with inbox := l }.handle e).refreshLimits)

/-- The end of a step: the owners set their limits, the events posted are taken, and an IDLE transmitter is offered a notice
(log 7). -/
def State.finish (s : State) : State :=
  { State.drain Config.cascadeBound s.refreshLimits with inbox := [] }.offerNotice

/-- A command: its own effect, on a step that begins with no event waiting, and the end of the step. -/
def State.commit (s : State) (effect : State → State) : State := (effect { s with inbox := [] }).finish

/-- Every command of the table completes. -/
def State.run (s : State) (effect : State → State) : Out := .next (s.commit effect)

end Sys2Proof.Machine
end

