-- ==== Sys2Proof/Machine/FieldCommands.lean ====
section
/-! DEFINITION. The meanings of the field commands: power-on, the encoder, the timers' expiries, the field inputs and the
serial line. Each is the block's own rule, followed by the end of the step. -/

namespace Sys2Proof.Machine

/-- R1, R2, R3, R4, R98: a forward count. A step that raises E keeps the map in map order and draws the rolls not due a decrement; the
registrations it reaches, the decrements and the board-in-motion event are each taken at their own block in a free order (log 3). -/
def State.takeForward (s : State) : State :=
  let t := s.tracker
  let w := { t with window := t.window + 1 }
  if 0 < t.backtrack then { s with tracker := { w with backtrack := t.backtrack - 1 } }
  else
    let s1 := { s with
      tracker := { w with pos := t.pos + 1 }, map := { s.map with spans := mapTurn (t.pos + 1) s.map.spans } }
    let due := allStands.filter s1.dueDecrement
    let s2 := s1.each allStands State.drawStand
    let reached := s2.reachedCrossings
    let moving : List Ev := if s.glue.motion then [] else [.motionSet]
    { s2 with regs := s2.unreachedRegs }.postTogether (reached ++ due.map (fun n => Ev.decrement n) ++ moving)

/-- R1: a reverse count; the backtrack count holds at its top. -/
def State.takeReverse (s : State) : State :=
  { s with tracker := { s.tracker with backtrack := min Config.backtrackTop (s.tracker.backtrack + 1) } }

/-- R3, R159, R181: the Governor period expires at the Position Tracker, the Governor and the Glue Units, in a free order
(log 4). -/
def State.takeGovernorPeriod (s : State) : State := s.postTogether [.publish, .govStep, .glueTargets]

/-- R52: the knife cycle is idle again. -/
def State.takeCycleExpiry (s : State) : State := { s with cutoff := { s.cutoff with cycle := none } }

/-- R137, R138: a conversion completes: its record is formed and handed to its zone (R142) or glue unit (R163). With no
conversion in flight nothing completes (log 9). -/
def State.takeConversion (s : State) (raw : Raw) : State :=
  match s.scanner.conversion with
  | none => s
  | some _ =>
    let c := s.scanner.pointer
    let s1 := s.formRecord raw
    if h : c.val < 12 then State.findZone ⟨c.val, h⟩ s1 else State.findUnit ⟨c.val - 12, by omega⟩ s1

/-- POWER_ON (R186, R188, R206, power-on of every block). -/
def execPowerOn (strap1 : Bool) (strap2 : Bool) (estop : Bool) (pressure : Bool) (s : State) : Out := s.run (fun t => t.powerOn strap1 strap2 estop pressure)

/-- FORWARD_COUNT (R1, R2, R98, R163). -/
def execForwardCount (s : State) : Out := s.run State.takeForward

/-- REVERSE_COUNT (R1). -/
def execReverseCount (s : State) : Out := s.run State.takeReverse

/-- GOVERNOR_PERIOD_EXPIRY (R3, R159, R181). -/
def execGovernorPeriodExpiry (s : State) : Out := s.run State.takeGovernorPeriod

/-- PLAN_REFRESH_EXPIRY (R28). -/
def execPlanRefreshExpiry (s : State) : Out := s.run State.placementPass

/-- ZONE_PERIOD_EXPIRY (R144). -/
def execZonePeriodExpiry (s : State) : Out := s.run State.takeZonePeriod

/-- KNIFE_CYCLE_EXPIRY (R52). -/
def execKnifeCycleExpiry (s : State) : Out := s.run State.takeCycleExpiry

/-- SET_TIMER_EXPIRY (R65). -/
def execSetTimerExpiry (st : Station) (s : State) : Out := s.run (fun t => t.takeSetExpiry st)

/-- SET_DONE (R65, R70). -/
def execSetDone (st : Station) (s : State) : Out := s.run (fun t => t.takeSetDone st)

/-- PASTE_FAIL (R128). -/
def execPasteFail (n : Stand) (s : State) : Out := s.run (fun t => t.takePasteFail n)

/-- CUT_FAIL (R129). -/
def execCutFail (n : Stand) (s : State) : Out := s.run (fun t => t.takeCutFail n)

/-- TRANSFER_EXPIRY (R123). -/
def execTransferExpiry (n : Stand) (s : State) : Out := s.run (fun t => t.takeTransferExpiry n)

/-- PASTED (R121, R122). -/
def execPasted (n : Stand) (s : State) : Out := s.run (fun t => t.takePasted n)

/-- CUT_INPUT (R122, R123). -/
def execCutInput (n : Stand) (s : State) : Out := s.run (fun t => t.takeCutInput n)

/-- WEB_LOST (R102). -/
def execWebLost (n : Stand) (s : State) : Out := s.run (fun t => t.takeWebLost n)

/-- PREPARED (R105). -/
def execPrepared (n : Stand) (s : State) : Out := s.run (fun t => t.takePrepared n)

/-- TRANSFER_DONE (R86). -/
def execTransferDone (s : State) : Out := s.run State.takeTransferDone

/-- STACK_TAKEN (R87). -/
def execStackTaken (s : State) : Out := s.run State.takeStackTaken

/-- ARRIVED (R160). -/
def execArrived (u : GlueUnit) (s : State) : Out := s.run (fun t => t.takeArrived u)

/-- MOVE_TIMER_EXPIRY (R160). -/
def execMoveTimerExpiry (u : GlueUnit) (s : State) : Out := s.run (fun t => t.takeMoveExpiry u)

/-- PRESSURE_OK_CHANGE (R141). -/
def execPressureOkChange (ok : Bool) (s : State) : Out := s.run (fun t => t.takePressure ok)

/-- SETTLE_EXPIRY (R141). -/
def execSettleExpiry (s : State) : Out := s.run State.takeSettleExpiry

/-- CONVERSION_COMPLETE (R137, R138). -/
def execConversionComplete (raw : Raw) (s : State) : Out := s.run (fun t => t.takeConversion raw)

/-- HOLD_EXPIRY (R146). -/
def execHoldExpiry (z : Zone) (s : State) : Out := s.run (fun t => t.takeHoldExpiry z)

/-- BELOW_TIMER_EXPIRY (R151). -/
def execBelowTimerExpiry (z : Zone) (s : State) : Out := s.run (fun t => t.takeBelowExpiry z)

/-- ESTOP_ASSERT (R184). -/
def execEstopAssert (s : State) : Out := s.run State.takeAssert

/-- ESTOP_RELEASE (R185). -/
def execEstopRelease (s : State) : Out := s.run State.takeRelease

/-- BYTE_RECEIVED (R188 to R191). -/
def execByteReceived (b : Byte) (stopHigh : Bool) (s : State) : Out := s.run (fun t => t.takeByte b stopHigh)

/-- GAP_TIMER_EXPIRY (R189). -/
def execGapTimerExpiry (s : State) : Out := s.run State.takeGap

/-- LAST_BYTE_SENT (R192, R195). -/
def execLastByteSent (s : State) : Out := s.run State.takeLastByte

end Sys2Proof.Machine
end

