-- ==== Sys2Proof/Machine/HostCommands.lean ====
section
/-! DEFINITION. The meanings of the host's requests: each is taken in hand under its kind code (section 11.6) and tag, answered
by its owner, and its reply made (R192, R194, R195), followed by the end of the step. -/

namespace Sys2Proof.Machine

/-- UNKNOWN_REQUEST (R192): a kind not in the request list. -/
def execUnknownRequest (kind tag : Byte) (s : State) : Out :=
  s.run (State.serve kind tag (fun t => (t, .just .unknownRequest)))

/-- RESET_PART (R186, R198). -/
def execResetPart (tag : Byte) (s : State) : Out :=
  s.run (State.serve 0x06 tag State.reqResetPart)

/-- CONFIGURE (R172 to R175). -/
def execConfigure (tag : Byte) (sec : Section) (s : State) : Out :=
  s.run (State.serve 0x01 tag (fun t => t.reqConfigure sec))

/-- RUN (R177). -/
def execRun (tag : Byte) (s : State) : Out :=
  s.run (State.serve 0x02 tag State.reqRun)

/-- STOP (R178). -/
def execStop (tag : Byte) (s : State) : Out :=
  s.run (State.serve 0x03 tag State.reqStop)

/-- SET_SPEED (R179). -/
def execSetSpeed (tag : Byte) (speed : Nat) (s : State) : Out :=
  s.run (State.serve 0x04 tag (fun t => t.reqSetSpeed speed))

/-- RESUME (R185). -/
def execResume (tag : Byte) (s : State) : Out :=
  s.run (State.serve 0x05 tag State.reqResume)

/-- READ_LINE (R187). -/
def execReadLine (tag : Byte) (s : State) : Out :=
  s.run (State.serve 0x07 tag State.reqReadLine)

/-- ADD_REJECT (R16). -/
def execAddReject (tag : Byte) (start : Pos) (stop : Pos) (s : State) : Out :=
  s.run (State.serve 0x10 tag (fun t => t.reqAddReject start stop))

/-- READ_MAP (R17). -/
def execReadMap (tag : Byte) (s : State) : Out :=
  s.run (State.serve 0x11 tag State.reqReadMap)

/-- SET_GRADE (R21). -/
def execSetGrade (tag : Byte) (code : Nat) (g : Grade) (s : State) : Out :=
  s.run (State.serve 0x18 tag (fun t => t.reqSetGrade code g))

/-- READ_GRADE (R22). -/
def execReadGrade (tag : Byte) (code : Nat) (s : State) : Out :=
  s.run (State.serve 0x19 tag (fun t => t.reqReadGrade code))

/-- ADD_ORDER (R24). -/
def execAddOrder (tag : Byte) (o : OrderSpec) (s : State) : Out :=
  s.run (State.serve 0x1A tag (fun t => t.reqAddOrder o))

/-- CHANGE_COUNT (R37). -/
def execChangeCount (tag : Byte) (id : Nat) (ordered : Nat) (allowance : Nat) (s : State) : Out :=
  s.run (State.serve 0x1B tag (fun t => t.reqChangeCount id ordered allowance))

/-- CANCEL_ORDER (R38). -/
def execCancelOrder (tag : Byte) (id : Nat) (s : State) : Out :=
  s.run (State.serve 0x1C tag (fun t => t.reqCancelOrder id))

/-- READ_ORDER (R39). -/
def execReadOrder (tag : Byte) (id : Nat) (s : State) : Out :=
  s.run (State.serve 0x1D tag (fun t => t.reqReadOrder id))

/-- LIST_ORDERS (R40). -/
def execListOrders (tag : Byte) (s : State) : Out :=
  s.run (State.serve 0x1E tag State.reqListOrders)

/-- READ_COMPLETED (R40). -/
def execReadCompleted (tag : Byte) (s : State) : Out :=
  s.run (State.serve 0x1F tag State.reqReadCompleted)

/-- HOLD_KNIFE (R59). -/
def execHoldKnife (tag : Byte) (s : State) : Out :=
  s.run (State.serve 0x20 tag State.reqHoldKnife)

/-- RELEASE_KNIFE (R60). -/
def execReleaseKnife (tag : Byte) (s : State) : Out :=
  s.run (State.serve 0x21 tag State.reqReleaseKnife)

/-- READ_KNIFE (R61). -/
def execReadKnife (tag : Byte) (s : State) : Out :=
  s.run (State.serve 0x22 tag State.reqReadKnife)

/-- CLEAR_STATION (R75). -/
def execClearStation (tag : Byte) (station : Nat) (s : State) : Out :=
  s.run (State.serve 0x28 tag (fun t => t.reqClearStation station))

/-- READ_SLITTER (R76). -/
def execReadSlitter (tag : Byte) (s : State) : Out :=
  s.run (State.serve 0x29 tag State.reqReadSlitter)

/-- READ_STACKER (R92). -/
def execReadStacker (tag : Byte) (s : State) : Out :=
  s.run (State.serve 0x30 tag State.reqReadStacker)

/-- LOAD_ROLL (R104). -/
def execLoadRoll (tag : Byte) (stand : Nat) (arm : Nat) (r : RollSpec) (s : State) : Out :=
  s.run (State.serve 0x38 tag (fun t => t.reqLoadRoll stand arm r))

/-- MARK_READY (R105). -/
def execMarkReady (tag : Byte) (stand : Nat) (arm : Nat) (s : State) : Out :=
  s.run (State.serve 0x39 tag (fun t => t.reqMarkReady stand arm))

/-- UNLOAD_ROLL (R106). -/
def execUnloadRoll (tag : Byte) (stand : Nat) (arm : Nat) (s : State) : Out :=
  s.run (State.serve 0x3A tag (fun t => t.reqUnloadRoll stand arm))

/-- THREAD (R107). -/
def execThread (tag : Byte) (stand : Nat) (arm : Nat) (s : State) : Out :=
  s.run (State.serve 0x3B tag (fun t => t.reqThread stand arm))

/-- CLEAR_STAND (R108). -/
def execClearStand (tag : Byte) (stand : Nat) (arm : Option Nat) (s : State) : Out :=
  s.run (State.serve 0x3C tag (fun t => t.reqClearStand stand arm))

/-- READ_STAND (R109). -/
def execReadStand (tag : Byte) (stand : Nat) (s : State) : Out :=
  s.run (State.serve 0x3D tag (fun t => t.reqReadStand stand))

/-- SPLICE_NOW (R133). -/
def execSpliceNow (tag : Byte) (stand : Nat) (s : State) : Out :=
  s.run (State.serve 0x40 tag (fun t => t.reqSpliceNow stand))

/-- CANCEL_SPLICE (R134). -/
def execCancelSplice (tag : Byte) (stand : Nat) (s : State) : Out :=
  s.run (State.serve 0x41 tag (fun t => t.reqCancelSplice stand))

/-- READ_SPLICE (R135). -/
def execReadSplice (tag : Byte) (stand : Nat) (s : State) : Out :=
  s.run (State.serve 0x42 tag (fun t => t.reqReadSplice stand))

/-- SET_SUPPLY (R140). -/
def execSetSupply (tag : Byte) (on : Nat) (s : State) : Out :=
  s.run (State.serve 0x48 tag (fun t => t.reqSetSupply on))

/-- ENABLE_ZONE (R152). -/
def execEnableZone (tag : Byte) (zone : Nat) (on : Nat) (s : State) : Out :=
  s.run (State.serve 0x49 tag (fun t => t.reqEnableZone zone on))

/-- READ_ZONES (R153). -/
def execReadZones (tag : Byte) (s : State) : Out :=
  s.run (State.serve 0x4A tag State.reqReadZones)

/-- CLEAR_GLUE (R167). -/
def execClearGlue (tag : Byte) (unit : Nat) (s : State) : Out :=
  s.run (State.serve 0x50 tag (fun t => t.reqClearGlue unit))

/-- READ_GLUE (R168). -/
def execReadGlue (tag : Byte) (s : State) : Out :=
  s.run (State.serve 0x51 tag State.reqReadGlue)

/-- SET_LEVEL (R203). -/
def execSetLevel (tag : Byte) (source : Nat) (level : Nat) (s : State) : Out :=
  s.run (State.serve 0x58 tag (fun t => t.reqSetLevel source level))

/-- SET_THRESHOLD (R204). -/
def execSetThreshold (tag : Byte) (threshold : Nat) (s : State) : Out :=
  s.run (State.serve 0x59 tag (fun t => t.reqSetThreshold threshold))

/-- READ_SUMMARY (R197). -/
def execReadSummary (tag : Byte) (s : State) : Out :=
  s.run (State.serve 0x60 tag State.reqReadSummary)

end Sys2Proof.Machine
end

