-- ==== Sys2Proof/Machine/Dispatch.lean ====
section
/-! DEFINITION. The dispatch: one arm for each command, a direct call of its meaning. -/

namespace Sys2Proof.Machine

def exec (i : Instr) (s : State) : Host.Outcome State Fault Refusal :=
  match i with
  | .powerOn strap1 strap2 estop pressure => Sys2Proof.Machine.execPowerOn strap1 strap2 estop pressure s
  | .resetPart tag => Sys2Proof.Machine.execResetPart tag s
  | .forwardCount => Sys2Proof.Machine.execForwardCount s
  | .reverseCount => Sys2Proof.Machine.execReverseCount s
  | .governorPeriodExpiry => Sys2Proof.Machine.execGovernorPeriodExpiry s
  | .planRefreshExpiry => Sys2Proof.Machine.execPlanRefreshExpiry s
  | .zonePeriodExpiry => Sys2Proof.Machine.execZonePeriodExpiry s
  | .knifeCycleExpiry => Sys2Proof.Machine.execKnifeCycleExpiry s
  | .setTimerExpiry st => Sys2Proof.Machine.execSetTimerExpiry st s
  | .setDone st => Sys2Proof.Machine.execSetDone st s
  | .pasteFail n => Sys2Proof.Machine.execPasteFail n s
  | .cutFail n => Sys2Proof.Machine.execCutFail n s
  | .transferExpiry n => Sys2Proof.Machine.execTransferExpiry n s
  | .pasted n => Sys2Proof.Machine.execPasted n s
  | .cutInput n => Sys2Proof.Machine.execCutInput n s
  | .webLost n => Sys2Proof.Machine.execWebLost n s
  | .prepared n => Sys2Proof.Machine.execPrepared n s
  | .transferDone => Sys2Proof.Machine.execTransferDone s
  | .stackTaken => Sys2Proof.Machine.execStackTaken s
  | .arrived u => Sys2Proof.Machine.execArrived u s
  | .moveTimerExpiry u => Sys2Proof.Machine.execMoveTimerExpiry u s
  | .pressureOkChange ok => Sys2Proof.Machine.execPressureOkChange ok s
  | .settleExpiry => Sys2Proof.Machine.execSettleExpiry s
  | .conversionComplete raw => Sys2Proof.Machine.execConversionComplete raw s
  | .holdExpiry z => Sys2Proof.Machine.execHoldExpiry z s
  | .belowTimerExpiry z => Sys2Proof.Machine.execBelowTimerExpiry z s
  | .estopAssert => Sys2Proof.Machine.execEstopAssert s
  | .estopRelease => Sys2Proof.Machine.execEstopRelease s
  | .byteReceived b stopHigh => Sys2Proof.Machine.execByteReceived b stopHigh s
  | .gapTimerExpiry => Sys2Proof.Machine.execGapTimerExpiry s
  | .lastByteSent => Sys2Proof.Machine.execLastByteSent s
  | .unknownRequest kind tag => Sys2Proof.Machine.execUnknownRequest kind tag s
  | .configure tag sec => Sys2Proof.Machine.execConfigure tag sec s
  | .run tag => Sys2Proof.Machine.execRun tag s
  | .stop tag => Sys2Proof.Machine.execStop tag s
  | .setSpeed tag speed => Sys2Proof.Machine.execSetSpeed tag speed s
  | .resume tag => Sys2Proof.Machine.execResume tag s
  | .readLine tag => Sys2Proof.Machine.execReadLine tag s
  | .addReject tag start stop => Sys2Proof.Machine.execAddReject tag start stop s
  | .readMap tag => Sys2Proof.Machine.execReadMap tag s
  | .setGrade tag code g => Sys2Proof.Machine.execSetGrade tag code g s
  | .readGrade tag code => Sys2Proof.Machine.execReadGrade tag code s
  | .addOrder tag o => Sys2Proof.Machine.execAddOrder tag o s
  | .changeCount tag id ordered allowance => Sys2Proof.Machine.execChangeCount tag id ordered allowance s
  | .cancelOrder tag id => Sys2Proof.Machine.execCancelOrder tag id s
  | .readOrder tag id => Sys2Proof.Machine.execReadOrder tag id s
  | .listOrders tag => Sys2Proof.Machine.execListOrders tag s
  | .readCompleted tag => Sys2Proof.Machine.execReadCompleted tag s
  | .holdKnife tag => Sys2Proof.Machine.execHoldKnife tag s
  | .releaseKnife tag => Sys2Proof.Machine.execReleaseKnife tag s
  | .readKnife tag => Sys2Proof.Machine.execReadKnife tag s
  | .clearStation tag station => Sys2Proof.Machine.execClearStation tag station s
  | .readSlitter tag => Sys2Proof.Machine.execReadSlitter tag s
  | .readStacker tag => Sys2Proof.Machine.execReadStacker tag s
  | .loadRoll tag stand arm r => Sys2Proof.Machine.execLoadRoll tag stand arm r s
  | .markReady tag stand arm => Sys2Proof.Machine.execMarkReady tag stand arm s
  | .unloadRoll tag stand arm => Sys2Proof.Machine.execUnloadRoll tag stand arm s
  | .thread tag stand arm => Sys2Proof.Machine.execThread tag stand arm s
  | .clearStand tag stand arm => Sys2Proof.Machine.execClearStand tag stand arm s
  | .readStand tag stand => Sys2Proof.Machine.execReadStand tag stand s
  | .spliceNow tag stand => Sys2Proof.Machine.execSpliceNow tag stand s
  | .cancelSplice tag stand => Sys2Proof.Machine.execCancelSplice tag stand s
  | .readSplice tag stand => Sys2Proof.Machine.execReadSplice tag stand s
  | .setSupply tag on => Sys2Proof.Machine.execSetSupply tag on s
  | .enableZone tag zone on => Sys2Proof.Machine.execEnableZone tag zone on s
  | .readZones tag => Sys2Proof.Machine.execReadZones tag s
  | .clearGlue tag unit => Sys2Proof.Machine.execClearGlue tag unit s
  | .readGlue tag => Sys2Proof.Machine.execReadGlue tag s
  | .setLevel tag source level => Sys2Proof.Machine.execSetLevel tag source level s
  | .setThreshold tag threshold => Sys2Proof.Machine.execSetThreshold tag threshold s
  | .readSummary tag => Sys2Proof.Machine.execReadSummary tag s

end Sys2Proof.Machine
end

