-- ==== Sys2Proof/WellFormed.lean ====
section
/-! DEFINITION. Well-formed commands: every field of a request fits the bytes the link gives it (R193, sections 2.1, 2.2, 6.2
and 11.6), and an unknown request has a kind that is not in the request list (R192). The ranges the owners check themselves,
and answer BAD_VALUE for, are no part of it. -/

namespace Sys2Proof

/-- A number fits 1 byte. -/
def fits8 (n : Nat) : Bool := decide (n < 256)
/-- A number fits 2 bytes. -/
def fits16 (n : Nat) : Bool := decide (n < 65536)
/-- A number fits 4 bytes. -/
def fits32 (n : Nat) : Bool := decide (n < 4294967296)
/-- A signed number fits 2 bytes. -/
def fitsI16 (n : Int) : Bool := decide (-32768 ≤ n) && decide (n < 32768)
/-- A non-negative integer fits 2 bytes. -/
def fitsN16 (n : Int) : Bool := decide (0 ≤ n) && decide (n < 65536)
/-- A list of 2-byte numbers has a count of 1 byte. -/
def listFits (l : List Nat) : Bool := decide (l.length < 256) && l.all fits16

/-- A zone recipe fits its fields. -/
def ZoneRecipe.wf (r : ZoneRecipe) : Bool := fits16 r.setpoint && fits16 r.low && fits16 r.high && fits16 r.base

/-- A breakpoint fits its fields. -/
def Breakpoint.wf (b : Breakpoint) : Bool := fits16 b.speed && fits16 b.gap

/-- A grade record fits its fields. -/
def Grade.wf (g : Grade) : Bool :=
  g.kinds.toList.all fits8 && g.zones.toList.all ZoneRecipe.wf &&
    g.glue.toList.all (fun u => u.toList.all Breakpoint.wf) && fits16 g.cap

/-- An order record fits its fields. -/
def OrderSpec.wf (o : OrderSpec) : Bool :=
  fits32 o.id && fits8 o.grade && fits32 o.len && fits32 o.ordered && fits16 o.allowance && fits16 o.stackSize &&
  fits16 o.width && listFits o.slits && listFits o.scores && o.cap.all fits16 && o.interval.all fits8

/-- The roll fields fit. -/
def RollSpec.wf (r : RollSpec) : Bool :=
  fits32 r.id && fits8 r.kind && fits16 r.width && fits16 r.diameter && fits8 r.core && fits16 r.caliper

/-- The GEOMETRY fields fit. -/
def Geometry.wf (g : Geometry) : Bool :=
  fits16 g.cpm && fits32 g.dFreeze && fits16 g.headSpacing && fits32 g.dSlit && fits32 g.wSlit && fits32 g.dGate &&
  fits32 g.dStack && g.dStand.toList.all fits32 && g.dZone.toList.all fits32 && g.dGlue.toList.all fits32

/-- The STANDS fields of one stand fit. -/
def StandCfg.wf (c : StandCfg) : Bool :=
  fits16 c.takeup && fits16 c.reserve && fits8 c.minRun && fits16 c.tPaste && fits16 c.tCut && fits16 c.tTransfer &&
  fits32 c.spliceOffset && fits32 c.wApproach && fits32 c.guardBefore && fits32 c.spliceLen && fits32 c.guardAfter

/-- The DRYEND fields fit. -/
def DryEnd.wf (d : DryEnd) : Bool :=
  fits16 d.kMin && fits16 d.cMax && fits32 d.wasteLen && fits16 d.knifeCycle && fits8 d.setTime && fits8 d.fingerWarn

/-- The ZONES fields fit: channels 0..11 are signed, 12..15 unsigned. -/
def ZonesCfg.wf (z : ZonesCfg) : Bool :=
  fits8 z.scanDiv && (z.channels.toList.take 12).all (fun c => fitsI16 c.lo && fitsI16 c.hi) &&
  (z.channels.toList.drop 12).all (fun c => fitsN16 c.lo && fitsN16 c.hi) &&
  z.gains.toList.all (fun g => fits8 g.kp && fits8 g.ki) && fits8 z.probeHold && fits8 z.heatGrace && fits16 z.heatSlow &&
  fits16 z.supplySettle && fits16 z.gapMin && fits16 z.gapMax && fits8 z.gapDeadband && fits8 z.gapTol &&
  fits8 z.gapMoveTime

/-- The GOVERNOR fields fit. -/
def GovCfg.wf (g : GovCfg) : Bool :=
  fits8 g.accelStep && fits8 g.decelStep && fits16 g.fastStep && fits16 g.crawlSpeed && fits16 g.spliceSpeed &&
  fits16 g.glueLift

/-- A section fits its fields; a code that carries no section is not one of the five. -/
def Section.wf : Section → Bool
  | .geometry g => g.wf
  | .stands v => v.toList.all StandCfg.wf
  | .dryend d => d.wf
  | .zones z => z.wf
  | .governor g => g.wf
  | .other k => decide (5 ≤ k) && fits8 k

/-- The kinds of the request list (section 11.6). -/
def requestKinds : List Nat :=
  [0x01, 0x02, 0x03, 0x04, 0x05, 0x06, 0x07, 0x10, 0x11, 0x18, 0x19, 0x1A, 0x1B, 0x1C, 0x1D, 0x1E, 0x1F, 0x20, 0x21,
   0x22, 0x28, 0x29, 0x30, 0x38, 0x39, 0x3A, 0x3B, 0x3C, 0x3D, 0x40, 0x41, 0x42, 0x48, 0x49, 0x4A, 0x50, 0x51, 0x58,
   0x59, 0x60]

/-- A command is well formed. Field inputs and timer expiries always are: their operands are of finite types. -/
def Instr.wf : Instr → Bool
  | .powerOn _ _ _ _ => true
  | .resetPart _ => true
  | .forwardCount => true
  | .reverseCount => true
  | .governorPeriodExpiry => true
  | .planRefreshExpiry => true
  | .zonePeriodExpiry => true
  | .knifeCycleExpiry => true
  | .setTimerExpiry _ => true
  | .setDone _ => true
  | .pasteFail _ => true
  | .cutFail _ => true
  | .transferExpiry _ => true
  | .pasted _ => true
  | .cutInput _ => true
  | .webLost _ => true
  | .prepared _ => true
  | .transferDone => true
  | .stackTaken => true
  | .arrived _ => true
  | .moveTimerExpiry _ => true
  | .pressureOkChange _ => true
  | .settleExpiry => true
  | .conversionComplete _ => true
  | .holdExpiry _ => true
  | .belowTimerExpiry _ => true
  | .estopAssert => true
  | .estopRelease => true
  | .byteReceived _ _ => true
  | .gapTimerExpiry => true
  | .lastByteSent => true
  | .unknownRequest kind _ => !decide (kind.toNat ∈ requestKinds)
  | .configure _ sec => sec.wf
  | .run _ => true
  | .stop _ => true
  | .setSpeed _ v => fits16 v
  | .resume _ => true
  | .readLine _ => true
  | .addReject _ _ _ => true
  | .readMap _ => true
  | .setGrade _ c g => fits8 c && g.wf
  | .readGrade _ c => fits8 c
  | .addOrder _ o => o.wf
  | .changeCount _ id n a => fits32 id && fits32 n && fits16 a
  | .cancelOrder _ id => fits32 id
  | .readOrder _ id => fits32 id
  | .listOrders _ => true
  | .readCompleted _ => true
  | .holdKnife _ => true
  | .releaseKnife _ => true
  | .readKnife _ => true
  | .clearStation _ c => fits8 c
  | .readSlitter _ => true
  | .readStacker _ => true
  | .loadRoll _ n m r => fits8 n && fits8 m && r.wf
  | .markReady _ n m => fits8 n && fits8 m
  | .unloadRoll _ n m => fits8 n && fits8 m
  | .thread _ n m => fits8 n && fits8 m
  | .clearStand _ n m => fits8 n && m.all fits8
  | .readStand _ n => fits8 n
  | .spliceNow _ n => fits8 n
  | .cancelSplice _ n => fits8 n
  | .readSplice _ n => fits8 n
  | .setSupply _ x => fits8 x
  | .enableZone _ z x => fits8 z && fits8 x
  | .readZones _ => true
  | .clearGlue _ u => fits8 u
  | .readGlue _ => true
  | .setLevel _ i v => fits8 i && fits8 v
  | .setThreshold _ v => fits8 v
  | .readSummary _ => true

end Sys2Proof
end

