-- ==== Sys2Proof/Laws/Codec.lean ====
section
/-! SUPPORT. Reading back what was written: every reader of Decode on the bytes its encoder writes, with any bytes after
them. -/

namespace Sys2Proof.Machine

/-- A reader reads back what an encoder writes of a value. -/
abbrev Reads {α : Type} (f : Reader α) (x : α) (bs : List Byte) : Prop := ∀ l, f (bs ++ l) = some (x, l)

theorem reads_andThen {α β : Type} {f : Reader α} {g : α → Reader β} {x : α} {y : β} {bs cs : List Byte}
    (hf : Reads f x bs) (hg : Reads (g x) y cs) : Reads (andThen f g) y (bs ++ cs) := by
  intro l
  simp only [andThen, List.append_assoc, hf (cs ++ l), hg l]

theorem reads_done {α : Type} (x : α) : Reads (done x) x [] := fun _ => rfl

/-- The last field of a record. -/
theorem reads_last {α β : Type} {f : Reader α} {k : α → β} {x : α} {bs : List Byte} (hf : Reads f x bs) :
    Reads (andThen f fun a => done (k a)) (k x) bs := by
  have := reads_andThen (g := fun a => done (k a)) hf (reads_done (k x))
  simpa using this

/-! ### Numbers -/

theorem reads_rd8 {n : Nat} (h : fits8 n = true) : Reads rd8 n (u8 n) := by
  intro l
  have : n < 256 := by simpa [fits8] using h
  simp [u8, rd8]
  omega

theorem reads_rd16 {n : Nat} (h : fits16 n = true) : Reads rd16 n (u16 n) := by
  intro l
  have : n < 65536 := by simpa [fits16] using h
  simp [u16, rd16]
  omega

theorem reads_rd32 {n : Nat} (h : fits32 n = true) : Reads rd32 n (u32 n) := by
  intro l
  have : n < 4294967296 := by simpa [fits32] using h
  simp [u32, rd32]
  omega

theorem reads_rdPos (p : Pos) : Reads rdPos p (encPos p) := by
  intro l
  have h : fits32 p.toNat = true := by simpa [fits32] using p.isLt
  simp [rdPos, encPos, reads_rd32 h l]

theorem reads_rdI16 {n : Int} (h : fitsI16 n = true) : Reads rdI16 n (i16 n) := by
  intro l
  have hn : -32768 ≤ n ∧ n < 32768 := by simpa [fitsI16] using h
  have h16 : fits16 (BitVec.ofInt 16 n).toNat = true := by
    have := (BitVec.ofInt 16 n).isLt
    simpa [fits16] using this
  simp only [rdI16, i16, reads_rd16 h16 l, Option.map_some, BitVec.ofNat_toNat, Option.some.injEq, Prod.mk.injEq,
    and_true]
  simp [BitVec.toInt_ofInt, Int.bmod]
  omega

theorem reads_rdN16 {n : Int} (h : fitsN16 n = true) : Reads rdN16 n (i16 n) := by
  intro l
  have hn : 0 ≤ n ∧ n < 65536 := by simpa [fitsN16] using h
  have e : (BitVec.ofInt 16 n).toNat = n.toNat := by
    simp [BitVec.toNat_ofInt]
    omega
  have h16 : fits16 n.toNat = true := by simp [fits16]; omega
  simp only [rdN16, i16, e, reads_rd16 h16 l, Option.map_some, Option.some.injEq, Prod.mk.injEq, and_true]
  omega

/-! ### Optional fields, lists and tables -/

theorem reads_rdOpt {α : Type} {f : Reader α} {e : α → List Byte} {o : Option α} (h : ∀ x, o = some x → Reads f x (e x)) :
    Reads (rdOpt f) o (encOpt e o) := by
  intro l
  cases o with
  | none => simp [encOpt, u8, rdOpt, rd8]
  | some x => simp [encOpt, u8, rdOpt, rd8, h x rfl l]

theorem reads_rdMany {α : Type} {f : Reader α} {e : α → List Byte} {xs : List α} (h : ∀ x ∈ xs, Reads f x (e x)) :
    Reads (rdMany f xs.length) xs (xs.flatMap e) := by
  induction xs with
  | nil => intro l; rfl
  | cons x xs ih =>
    intro l
    have hx := h x (by simp) (xs.flatMap e ++ l)
    have hr := ih (fun y hy => h y (by simp [hy])) l
    simp [rdMany, hx, hr]

theorem reads_rdList {α : Type} {f : Reader α} {e : α → List Byte} {xs : List α} (hl : xs.length < 256)
    (h : ∀ x ∈ xs, Reads f x (e x)) : Reads (rdList f) xs (encList e xs) := by
  intro l
  have h8 : fits8 xs.length = true := by simpa [fits8] using hl
  simp only [rdList, encList, List.append_assoc, reads_rd8 h8 (xs.flatMap e ++ l), reads_rdMany h l]

theorem reads_rdTable {α : Type} {f : Reader α} {e : α → List Byte} : ∀ {n : Nat} (v : Vector α n),
    (∀ x ∈ v.toList, Reads f x (e x)) → Reads (rdTable f n) v (encTable e v) := by
  intro n
  induction n with
  | zero =>
    intro v _ l
    have : v = #v[] := by simp
    subst this
    rfl
  | succ n ih =>
    intro v h l
    have hv : v = v.pop.push v.back := by simp
    have hl : v.toList = v.pop.toList ++ [v.back] := by
      conv_lhs => rw [hv]
      rw [Vector.toList_push]
    have hb := h v.back (by rw [hl]; simp) l
    have hp := ih v.pop (fun x hx => h x (by rw [hl]; simp [hx])) (e v.back ++ l)
    simp only [encTable] at hp
    simp [rdTable, encTable, hl, hp, hb]

end Sys2Proof.Machine
end

