-- ==== Sys2Proof/Safety.lean ====
section
/-! DEFINITION. What statements about the part are said in: the state in which an owner takes a request, a reply made, the parts
of the state a cascade of events leaves alone, the coverage of the map, and the invariants of a safe run. -/

namespace Sys2Proof.Machine

/-! ### Requests and replies (R192, R194) -/

/-- The state in which the owner of a request takes it: no event waits and the request is in hand. -/
def State.heard (s : State) (kind tag : Byte) : State :=
  { s with inbox := [], link := { s.link with inHand := some (s.link.inHand.getD (kind, tag)) } }

/-- A reply is made: sent, or waiting for the transmitter. -/
def State.replied (s : State) (kind tag : Byte) (r : Reply) : State :=
  { s with link := s.link.sendReply (r.frame kind tag) }

/-- A reply of a status and plain fields is made to a request of the list. -/
def State.answered (s : State) (kind tag : Byte) (st : Status) (fields : List Byte) : State :=
  { s with
    link := s.link.sendReply
      { kind := kind + 0x80#8, tag := tag, payload := BitVec.ofNat 8 st.code :: 0x01#8 :: fields } }

/-- The end of a step in which no event was posted: limits set, and a notice offered to an IDLE transmitter. -/
def State.quietEnd (s : State) : State := s.refreshLimits.offerNotice

/-! ### The parts of the state a cascade leaves alone -/

/-- The events a calm cascade has none of: those that change the line mode, the reference or measured speed, draw a roll,
or hand a request to its owner. -/
def Ev.calm : Ev → Bool
  | .crossing _ _ => true
  | .decrement _ => false
  | .motionSet => true
  | .mapChange => true
  | .orderChange => true
  | .headStart => true
  | .endFrozen => true
  | .handover _ _ _ _ => true
  | .recipes _ _ => true
  | .startReport _ => true
  | .positionReport _ _ => true
  | .sheetReport _ _ _ _ => true
  | .sheet _ => true
  | .goodReport _ => true
  | .overflowReport _ => true
  | .stackReport _ => true
  | .endReport _ => true
  | .runOut => true
  | .accepted => true
  | .modeEntry _ _ => true
  | .halt _ _ => false
  | .webLoss _ => true
  | .cleared _ => true
  | .expiry _ => true
  | .rollReady _ => true
  | .minRun _ => true
  | .owedWork _ _ => true
  | .publish => false
  | .govStep => false
  | .glueTargets => true
  | .governorAccepted => true
  | .request _ => false

/-- An event that hands a request to its owner. -/
def Ev.isRequest : Ev → Bool
  | .request _ => true
  | _ => false

/-- What every calm event leaves as it is: the waiting commands, the Position Tracker, the sections in force, the Governor but
for its run-out flag, REQUESTED, the grade table, the scanner, the supply header, which zones are enabled, the levels and
threshold of the Notice Unit, and the link but for its transmitter and sequence number. `wild` keeps the waiting events that
are not calm. -/
structure Hub where
  pending : List Instr
  tracker : Tracker
  cfg : Sections
  gov : Governor
  requested : Nat
  grades : Vector (Option Grade) 64
  scanner : Scanner
  pressureOk : Bool
  header : Header
  settle : Option Nat
  enabled : List Bool
  levels : Vector Nat 22
  threshold : Nat
  link : Link
  wild : List Ev
deriving DecidableEq, Repr

/-- The hub of a state. -/
def State.hub (s : State) : Hub :=
  { pending := s.pending, tracker := s.tracker, cfg := s.cfg, gov := { s.gov with runOut := false },
    requested := s.limits.requested, grades := s.book.grades, scanner := s.scanner, pressureOk := s.heat.pressureOk,
    header := s.heat.header, settle := s.heat.settle, enabled := s.heat.zones.toList.map (fun r => r.enabled),
    levels := s.notices.levels, threshold := s.notices.threshold,
    link := { s.link with tx := .idle, seq := 0 }, wild := s.inbox.filter (fun e => !e.calm) }

/-- What every event but a request leaves as it is: of the hub, all but measured speed, the window, the Governor's
own fields other than the ESTOP line, and the waiting events. -/
def Hub.core (h : Hub) : Hub :=
  { h with
    tracker := { h.tracker with measured := 0, window := 0 },
    gov := { Governor.resetWith h.gov.estopLine with mode := .unconfigured }, wild := [] }

/-! ### Coverage (R5) -/

/-- A span of the map covers the board at a position. -/
def State.covers (s : State) (p : Pos) : Bool :=
  s.map.spans.any (fun sp => !isBelow s.tracker.pos p sp.start && isBelow s.tracker.pos p (s.topOf sp))

/-! ### Invariants -/

/-- R179, R181, R3: the reference is 0 outside RUNNING and STOPPING, and no speed exceeds 450.0 m/min. -/
def State.SpeedOk (s : State) : Prop :=
  (s.gov.mode ≠ .running → s.gov.mode ≠ .stopping → s.gov.reference = 0) ∧ s.gov.reference ≤ 4500 ∧
    s.gov.target ≤ 4500 ∧ s.limits.requested ≤ 4500 ∧ s.tracker.measured ≤ 4500

/-- R4, R24, R36, R87, R191: the fixed room of the stores of records. -/
def State.RoomOk (s : State) : Prop :=
  s.map.spans.length ≤ 48 ∧ s.book.orders.length ≤ 32 ∧ s.book.completed.length ≤ 16 ∧ s.stacker.out.length ≤ 4 ∧
    (s.stacker.mode = .transferring → s.stacker.out.length ≤ 3) ∧ s.link.queue.length ≤ 4

/-- R4: a span is open exactly when it names a source it is open for, and no source has two open spans. -/
def State.SpansOk (s : State) : Prop :=
  (∀ sp ∈ s.map.spans, sp.openFor.isSome = sp.stop.isNone) ∧
    ∀ src : Source, (s.map.spans.filter (fun sp => decide (sp.openFor = some src))).length ≤ 1

/-- R4: the spans of the map stand in map order. -/
def State.MapInOrder (s : State) : Prop := s.map.spans.Pairwise (fun x y => y.before s.tracker.pos x = false)

/-- R95: no stand has two RUNNING rolls. -/
def State.RollsOk (s : State) : Prop := ∀ n : Stand, ((s.stand n).runsOn .a && (s.stand n).runsOn .b) = false

/-- R143, R144, R145: a zone that is disabled, or whose supply header is not READY, has output 0, I 0 and no hold; every output
and held value lies in 0..1,000 and every I in -1,000..1,000. -/
def State.HeatOk (s : State) : Prop :=
  ∀ z : Zone,
    ((s.zone z).enabled = false → (s.zone z).state = .off) ∧
    (s.heat.header ≠ .ready → (s.zone z).state = .off ∨ (s.zone z).state = .waitingSupply) ∧
    ((s.zone z).state = .off ∨ (s.zone z).state = .waitingSupply →
      (s.zone z).output = 0 ∧ (s.zone z).integral = 0 ∧ (s.zone z).hold = .none) ∧
    (s.zone z).output ≤ 1000 ∧ -1000 ≤ (s.zone z).integral ∧ (s.zone z).integral ≤ 1000 ∧
    ∀ v t, (s.zone z).hold = .holding v t → v ≤ 1000

end Sys2Proof.Machine
end

