-- ==== Sys2Proof/Laws/State.lean ====
section
/-! SUPPORT. The update lemmas of the state: what each update leaves and what it sets, field by field, and reading back a table
that was written. -/

namespace Sys2Proof.Machine

variable (s : State)

/-! ### `post` -/

@[simp] theorem State.post_pending (e : Ev) : (s.post e).pending = s.pending := rfl
@[simp] theorem State.post_choice (e : Ev) : (s.post e).choice = s.choice := rfl
@[simp] theorem State.post_tracker (e : Ev) : (s.post e).tracker = s.tracker := rfl
@[simp] theorem State.post_regs (e : Ev) : (s.post e).regs = s.regs := rfl
@[simp] theorem State.post_map (e : Ev) : (s.post e).map = s.map := rfl
@[simp] theorem State.post_book (e : Ev) : (s.post e).book = s.book := rfl
@[simp] theorem State.post_cutoff (e : Ev) : (s.post e).cutoff = s.cutoff := rfl
@[simp] theorem State.post_slitter (e : Ev) : (s.post e).slitter = s.slitter := rfl
@[simp] theorem State.post_stacker (e : Ev) : (s.post e).stacker = s.stacker := rfl
@[simp] theorem State.post_stands (e : Ev) : (s.post e).stands = s.stands := rfl
@[simp] theorem State.post_splice (e : Ev) : (s.post e).splice = s.splice := rfl
@[simp] theorem State.post_scanner (e : Ev) : (s.post e).scanner = s.scanner := rfl
@[simp] theorem State.post_heat (e : Ev) : (s.post e).heat = s.heat := rfl
@[simp] theorem State.post_glue (e : Ev) : (s.post e).glue = s.glue := rfl
@[simp] theorem State.post_gov (e : Ev) : (s.post e).gov = s.gov := rfl
@[simp] theorem State.post_cfg (e : Ev) : (s.post e).cfg = s.cfg := rfl
@[simp] theorem State.post_limits (e : Ev) : (s.post e).limits = s.limits := rfl
@[simp] theorem State.post_link (e : Ev) : (s.post e).link = s.link := rfl
@[simp] theorem State.post_notices (e : Ev) : (s.post e).notices = s.notices := rfl

/-! ### `postFirst` -/

@[simp] theorem State.postFirst_pending (e : Ev) : (s.postFirst e).pending = s.pending := rfl
@[simp] theorem State.postFirst_choice (e : Ev) : (s.postFirst e).choice = s.choice := rfl
@[simp] theorem State.postFirst_tracker (e : Ev) : (s.postFirst e).tracker = s.tracker := rfl
@[simp] theorem State.postFirst_regs (e : Ev) : (s.postFirst e).regs = s.regs := rfl
@[simp] theorem State.postFirst_map (e : Ev) : (s.postFirst e).map = s.map := rfl
@[simp] theorem State.postFirst_book (e : Ev) : (s.postFirst e).book = s.book := rfl
@[simp] theorem State.postFirst_cutoff (e : Ev) : (s.postFirst e).cutoff = s.cutoff := rfl
@[simp] theorem State.postFirst_slitter (e : Ev) : (s.postFirst e).slitter = s.slitter := rfl
@[simp] theorem State.postFirst_stacker (e : Ev) : (s.postFirst e).stacker = s.stacker := rfl
@[simp] theorem State.postFirst_stands (e : Ev) : (s.postFirst e).stands = s.stands := rfl
@[simp] theorem State.postFirst_splice (e : Ev) : (s.postFirst e).splice = s.splice := rfl
@[simp] theorem State.postFirst_scanner (e : Ev) : (s.postFirst e).scanner = s.scanner := rfl
@[simp] theorem State.postFirst_heat (e : Ev) : (s.postFirst e).heat = s.heat := rfl
@[simp] theorem State.postFirst_glue (e : Ev) : (s.postFirst e).glue = s.glue := rfl
@[simp] theorem State.postFirst_gov (e : Ev) : (s.postFirst e).gov = s.gov := rfl
@[simp] theorem State.postFirst_cfg (e : Ev) : (s.postFirst e).cfg = s.cfg := rfl
@[simp] theorem State.postFirst_limits (e : Ev) : (s.postFirst e).limits = s.limits := rfl
@[simp] theorem State.postFirst_link (e : Ev) : (s.postFirst e).link = s.link := rfl
@[simp] theorem State.postFirst_notices (e : Ev) : (s.postFirst e).notices = s.notices := rfl

/-! ### `postAll` -/

@[simp] theorem State.postAll_pending (es : List Ev) : (s.postAll es).pending = s.pending := rfl
@[simp] theorem State.postAll_choice (es : List Ev) : (s.postAll es).choice = s.choice := rfl
@[simp] theorem State.postAll_tracker (es : List Ev) : (s.postAll es).tracker = s.tracker := rfl
@[simp] theorem State.postAll_regs (es : List Ev) : (s.postAll es).regs = s.regs := rfl
@[simp] theorem State.postAll_map (es : List Ev) : (s.postAll es).map = s.map := rfl
@[simp] theorem State.postAll_book (es : List Ev) : (s.postAll es).book = s.book := rfl
@[simp] theorem State.postAll_cutoff (es : List Ev) : (s.postAll es).cutoff = s.cutoff := rfl
@[simp] theorem State.postAll_slitter (es : List Ev) : (s.postAll es).slitter = s.slitter := rfl
@[simp] theorem State.postAll_stacker (es : List Ev) : (s.postAll es).stacker = s.stacker := rfl
@[simp] theorem State.postAll_stands (es : List Ev) : (s.postAll es).stands = s.stands := rfl
@[simp] theorem State.postAll_splice (es : List Ev) : (s.postAll es).splice = s.splice := rfl
@[simp] theorem State.postAll_scanner (es : List Ev) : (s.postAll es).scanner = s.scanner := rfl
@[simp] theorem State.postAll_heat (es : List Ev) : (s.postAll es).heat = s.heat := rfl
@[simp] theorem State.postAll_glue (es : List Ev) : (s.postAll es).glue = s.glue := rfl
@[simp] theorem State.postAll_gov (es : List Ev) : (s.postAll es).gov = s.gov := rfl
@[simp] theorem State.postAll_cfg (es : List Ev) : (s.postAll es).cfg = s.cfg := rfl
@[simp] theorem State.postAll_limits (es : List Ev) : (s.postAll es).limits = s.limits := rfl
@[simp] theorem State.postAll_link (es : List Ev) : (s.postAll es).link = s.link := rfl
@[simp] theorem State.postAll_notices (es : List Ev) : (s.postAll es).notices = s.notices := rfl

/-! ### `raise` -/

@[simp] theorem State.raise_pending (i : NoticeSource) (d : EventData) : (s.raise i d).pending = s.pending := rfl
@[simp] theorem State.raise_inbox (i : NoticeSource) (d : EventData) : (s.raise i d).inbox = s.inbox := rfl
@[simp] theorem State.raise_choice (i : NoticeSource) (d : EventData) : (s.raise i d).choice = s.choice := rfl
@[simp] theorem State.raise_tracker (i : NoticeSource) (d : EventData) : (s.raise i d).tracker = s.tracker := rfl
@[simp] theorem State.raise_regs (i : NoticeSource) (d : EventData) : (s.raise i d).regs = s.regs := rfl
@[simp] theorem State.raise_map (i : NoticeSource) (d : EventData) : (s.raise i d).map = s.map := rfl
@[simp] theorem State.raise_book (i : NoticeSource) (d : EventData) : (s.raise i d).book = s.book := rfl
@[simp] theorem State.raise_cutoff (i : NoticeSource) (d : EventData) : (s.raise i d).cutoff = s.cutoff := rfl
@[simp] theorem State.raise_slitter (i : NoticeSource) (d : EventData) : (s.raise i d).slitter = s.slitter := rfl
@[simp] theorem State.raise_stacker (i : NoticeSource) (d : EventData) : (s.raise i d).stacker = s.stacker := rfl
@[simp] theorem State.raise_stands (i : NoticeSource) (d : EventData) : (s.raise i d).stands = s.stands := rfl
@[simp] theorem State.raise_splice (i : NoticeSource) (d : EventData) : (s.raise i d).splice = s.splice := rfl
@[simp] theorem State.raise_scanner (i : NoticeSource) (d : EventData) : (s.raise i d).scanner = s.scanner := rfl
@[simp] theorem State.raise_heat (i : NoticeSource) (d : EventData) : (s.raise i d).heat = s.heat := rfl
@[simp] theorem State.raise_glue (i : NoticeSource) (d : EventData) : (s.raise i d).glue = s.glue := rfl
@[simp] theorem State.raise_gov (i : NoticeSource) (d : EventData) : (s.raise i d).gov = s.gov := rfl
@[simp] theorem State.raise_cfg (i : NoticeSource) (d : EventData) : (s.raise i d).cfg = s.cfg := rfl
@[simp] theorem State.raise_limits (i : NoticeSource) (d : EventData) : (s.raise i d).limits = s.limits := rfl
@[simp] theorem State.raise_link (i : NoticeSource) (d : EventData) : (s.raise i d).link = s.link := rfl

/-! ### `mark` -/

@[simp] theorem State.mark_pending (i : NoticeSource) : (s.mark i).pending = s.pending := rfl
@[simp] theorem State.mark_inbox (i : NoticeSource) : (s.mark i).inbox = s.inbox := rfl
@[simp] theorem State.mark_choice (i : NoticeSource) : (s.mark i).choice = s.choice := rfl
@[simp] theorem State.mark_tracker (i : NoticeSource) : (s.mark i).tracker = s.tracker := rfl
@[simp] theorem State.mark_regs (i : NoticeSource) : (s.mark i).regs = s.regs := rfl
@[simp] theorem State.mark_map (i : NoticeSource) : (s.mark i).map = s.map := rfl
@[simp] theorem State.mark_book (i : NoticeSource) : (s.mark i).book = s.book := rfl
@[simp] theorem State.mark_cutoff (i : NoticeSource) : (s.mark i).cutoff = s.cutoff := rfl
@[simp] theorem State.mark_slitter (i : NoticeSource) : (s.mark i).slitter = s.slitter := rfl
@[simp] theorem State.mark_stacker (i : NoticeSource) : (s.mark i).stacker = s.stacker := rfl
@[simp] theorem State.mark_stands (i : NoticeSource) : (s.mark i).stands = s.stands := rfl
@[simp] theorem State.mark_splice (i : NoticeSource) : (s.mark i).splice = s.splice := rfl
@[simp] theorem State.mark_scanner (i : NoticeSource) : (s.mark i).scanner = s.scanner := rfl
@[simp] theorem State.mark_heat (i : NoticeSource) : (s.mark i).heat = s.heat := rfl
@[simp] theorem State.mark_glue (i : NoticeSource) : (s.mark i).glue = s.glue := rfl
@[simp] theorem State.mark_gov (i : NoticeSource) : (s.mark i).gov = s.gov := rfl
@[simp] theorem State.mark_cfg (i : NoticeSource) : (s.mark i).cfg = s.cfg := rfl
@[simp] theorem State.mark_limits (i : NoticeSource) : (s.mark i).limits = s.limits := rfl
@[simp] theorem State.mark_link (i : NoticeSource) : (s.mark i).link = s.link := rfl

/-! ### `withdraw` -/

@[simp] theorem State.withdraw_pending (p : Purpose) : (s.withdraw p).pending = s.pending := rfl
@[simp] theorem State.withdraw_choice (p : Purpose) : (s.withdraw p).choice = s.choice := rfl
@[simp] theorem State.withdraw_tracker (p : Purpose) : (s.withdraw p).tracker = s.tracker := rfl
@[simp] theorem State.withdraw_map (p : Purpose) : (s.withdraw p).map = s.map := rfl
@[simp] theorem State.withdraw_book (p : Purpose) : (s.withdraw p).book = s.book := rfl
@[simp] theorem State.withdraw_cutoff (p : Purpose) : (s.withdraw p).cutoff = s.cutoff := rfl
@[simp] theorem State.withdraw_slitter (p : Purpose) : (s.withdraw p).slitter = s.slitter := rfl
@[simp] theorem State.withdraw_stacker (p : Purpose) : (s.withdraw p).stacker = s.stacker := rfl
@[simp] theorem State.withdraw_stands (p : Purpose) : (s.withdraw p).stands = s.stands := rfl
@[simp] theorem State.withdraw_splice (p : Purpose) : (s.withdraw p).splice = s.splice := rfl
@[simp] theorem State.withdraw_scanner (p : Purpose) : (s.withdraw p).scanner = s.scanner := rfl
@[simp] theorem State.withdraw_heat (p : Purpose) : (s.withdraw p).heat = s.heat := rfl
@[simp] theorem State.withdraw_glue (p : Purpose) : (s.withdraw p).glue = s.glue := rfl
@[simp] theorem State.withdraw_gov (p : Purpose) : (s.withdraw p).gov = s.gov := rfl
@[simp] theorem State.withdraw_cfg (p : Purpose) : (s.withdraw p).cfg = s.cfg := rfl
@[simp] theorem State.withdraw_limits (p : Purpose) : (s.withdraw p).limits = s.limits := rfl
@[simp] theorem State.withdraw_link (p : Purpose) : (s.withdraw p).link = s.link := rfl
@[simp] theorem State.withdraw_notices (p : Purpose) : (s.withdraw p).notices = s.notices := rfl

/-! ### `rateNow` -/

@[simp] theorem State.rateNow_pending : s.rateNow.pending = s.pending := rfl
@[simp] theorem State.rateNow_inbox : s.rateNow.inbox = s.inbox := rfl
@[simp] theorem State.rateNow_choice : s.rateNow.choice = s.choice := rfl
@[simp] theorem State.rateNow_tracker : s.rateNow.tracker = s.tracker := rfl
@[simp] theorem State.rateNow_regs : s.rateNow.regs = s.regs := rfl
@[simp] theorem State.rateNow_map : s.rateNow.map = s.map := rfl
@[simp] theorem State.rateNow_book : s.rateNow.book = s.book := rfl
@[simp] theorem State.rateNow_slitter : s.rateNow.slitter = s.slitter := rfl
@[simp] theorem State.rateNow_stacker : s.rateNow.stacker = s.stacker := rfl
@[simp] theorem State.rateNow_stands : s.rateNow.stands = s.stands := rfl
@[simp] theorem State.rateNow_splice : s.rateNow.splice = s.splice := rfl
@[simp] theorem State.rateNow_scanner : s.rateNow.scanner = s.scanner := rfl
@[simp] theorem State.rateNow_heat : s.rateNow.heat = s.heat := rfl
@[simp] theorem State.rateNow_glue : s.rateNow.glue = s.glue := rfl
@[simp] theorem State.rateNow_gov : s.rateNow.gov = s.gov := rfl
@[simp] theorem State.rateNow_cfg : s.rateNow.cfg = s.cfg := rfl
@[simp] theorem State.rateNow_limits : s.rateNow.limits = s.limits := rfl
@[simp] theorem State.rateNow_link : s.rateNow.link = s.link := rfl
@[simp] theorem State.rateNow_notices : s.rateNow.notices = s.notices := rfl
@[simp] theorem State.rateNow_cutoff : 
    s.rateNow.cutoff = { s.cutoff with limitCpm := s.cpm, limitWaste := s.cutoff.wasteLen } := rfl

/-! ### `setStand` -/

@[simp] theorem State.setStand_pending (n : Stand) (r : StandRec) : (s.setStand n r).pending = s.pending := rfl
@[simp] theorem State.setStand_inbox (n : Stand) (r : StandRec) : (s.setStand n r).inbox = s.inbox := rfl
@[simp] theorem State.setStand_choice (n : Stand) (r : StandRec) : (s.setStand n r).choice = s.choice := rfl
@[simp] theorem State.setStand_tracker (n : Stand) (r : StandRec) : (s.setStand n r).tracker = s.tracker := rfl
@[simp] theorem State.setStand_regs (n : Stand) (r : StandRec) : (s.setStand n r).regs = s.regs := rfl
@[simp] theorem State.setStand_map (n : Stand) (r : StandRec) : (s.setStand n r).map = s.map := rfl
@[simp] theorem State.setStand_book (n : Stand) (r : StandRec) : (s.setStand n r).book = s.book := rfl
@[simp] theorem State.setStand_cutoff (n : Stand) (r : StandRec) : (s.setStand n r).cutoff = s.cutoff := rfl
@[simp] theorem State.setStand_slitter (n : Stand) (r : StandRec) : (s.setStand n r).slitter = s.slitter := rfl
@[simp] theorem State.setStand_stacker (n : Stand) (r : StandRec) : (s.setStand n r).stacker = s.stacker := rfl
@[simp] theorem State.setStand_splice (n : Stand) (r : StandRec) : (s.setStand n r).splice = s.splice := rfl
@[simp] theorem State.setStand_scanner (n : Stand) (r : StandRec) : (s.setStand n r).scanner = s.scanner := rfl
@[simp] theorem State.setStand_heat (n : Stand) (r : StandRec) : (s.setStand n r).heat = s.heat := rfl
@[simp] theorem State.setStand_glue (n : Stand) (r : StandRec) : (s.setStand n r).glue = s.glue := rfl
@[simp] theorem State.setStand_gov (n : Stand) (r : StandRec) : (s.setStand n r).gov = s.gov := rfl
@[simp] theorem State.setStand_cfg (n : Stand) (r : StandRec) : (s.setStand n r).cfg = s.cfg := rfl
@[simp] theorem State.setStand_limits (n : Stand) (r : StandRec) : (s.setStand n r).limits = s.limits := rfl
@[simp] theorem State.setStand_link (n : Stand) (r : StandRec) : (s.setStand n r).link = s.link := rfl
@[simp] theorem State.setStand_notices (n : Stand) (r : StandRec) : (s.setStand n r).notices = s.notices := rfl

/-! ### `setSpl` -/

@[simp] theorem State.setSpl_pending (n : Stand) (r : SpliceRec) : (s.setSpl n r).pending = s.pending := rfl
@[simp] theorem State.setSpl_inbox (n : Stand) (r : SpliceRec) : (s.setSpl n r).inbox = s.inbox := rfl
@[simp] theorem State.setSpl_choice (n : Stand) (r : SpliceRec) : (s.setSpl n r).choice = s.choice := rfl
@[simp] theorem State.setSpl_tracker (n : Stand) (r : SpliceRec) : (s.setSpl n r).tracker = s.tracker := rfl
@[simp] theorem State.setSpl_regs (n : Stand) (r : SpliceRec) : (s.setSpl n r).regs = s.regs := rfl
@[simp] theorem State.setSpl_map (n : Stand) (r : SpliceRec) : (s.setSpl n r).map = s.map := rfl
@[simp] theorem State.setSpl_book (n : Stand) (r : SpliceRec) : (s.setSpl n r).book = s.book := rfl
@[simp] theorem State.setSpl_cutoff (n : Stand) (r : SpliceRec) : (s.setSpl n r).cutoff = s.cutoff := rfl
@[simp] theorem State.setSpl_slitter (n : Stand) (r : SpliceRec) : (s.setSpl n r).slitter = s.slitter := rfl
@[simp] theorem State.setSpl_stacker (n : Stand) (r : SpliceRec) : (s.setSpl n r).stacker = s.stacker := rfl
@[simp] theorem State.setSpl_stands (n : Stand) (r : SpliceRec) : (s.setSpl n r).stands = s.stands := rfl
@[simp] theorem State.setSpl_scanner (n : Stand) (r : SpliceRec) : (s.setSpl n r).scanner = s.scanner := rfl
@[simp] theorem State.setSpl_heat (n : Stand) (r : SpliceRec) : (s.setSpl n r).heat = s.heat := rfl
@[simp] theorem State.setSpl_glue (n : Stand) (r : SpliceRec) : (s.setSpl n r).glue = s.glue := rfl
@[simp] theorem State.setSpl_gov (n : Stand) (r : SpliceRec) : (s.setSpl n r).gov = s.gov := rfl
@[simp] theorem State.setSpl_cfg (n : Stand) (r : SpliceRec) : (s.setSpl n r).cfg = s.cfg := rfl
@[simp] theorem State.setSpl_limits (n : Stand) (r : SpliceRec) : (s.setSpl n r).limits = s.limits := rfl
@[simp] theorem State.setSpl_link (n : Stand) (r : SpliceRec) : (s.setSpl n r).link = s.link := rfl
@[simp] theorem State.setSpl_notices (n : Stand) (r : SpliceRec) : (s.setSpl n r).notices = s.notices := rfl

/-! ### `setZone` -/

@[simp] theorem State.setZone_pending (z : Zone) (r : ZoneRec) : (s.setZone z r).pending = s.pending := rfl
@[simp] theorem State.setZone_inbox (z : Zone) (r : ZoneRec) : (s.setZone z r).inbox = s.inbox := rfl
@[simp] theorem State.setZone_choice (z : Zone) (r : ZoneRec) : (s.setZone z r).choice = s.choice := rfl
@[simp] theorem State.setZone_tracker (z : Zone) (r : ZoneRec) : (s.setZone z r).tracker = s.tracker := rfl
@[simp] theorem State.setZone_regs (z : Zone) (r : ZoneRec) : (s.setZone z r).regs = s.regs := rfl
@[simp] theorem State.setZone_map (z : Zone) (r : ZoneRec) : (s.setZone z r).map = s.map := rfl
@[simp] theorem State.setZone_book (z : Zone) (r : ZoneRec) : (s.setZone z r).book = s.book := rfl
@[simp] theorem State.setZone_cutoff (z : Zone) (r : ZoneRec) : (s.setZone z r).cutoff = s.cutoff := rfl
@[simp] theorem State.setZone_slitter (z : Zone) (r : ZoneRec) : (s.setZone z r).slitter = s.slitter := rfl
@[simp] theorem State.setZone_stacker (z : Zone) (r : ZoneRec) : (s.setZone z r).stacker = s.stacker := rfl
@[simp] theorem State.setZone_stands (z : Zone) (r : ZoneRec) : (s.setZone z r).stands = s.stands := rfl
@[simp] theorem State.setZone_splice (z : Zone) (r : ZoneRec) : (s.setZone z r).splice = s.splice := rfl
@[simp] theorem State.setZone_scanner (z : Zone) (r : ZoneRec) : (s.setZone z r).scanner = s.scanner := rfl
@[simp] theorem State.setZone_glue (z : Zone) (r : ZoneRec) : (s.setZone z r).glue = s.glue := rfl
@[simp] theorem State.setZone_gov (z : Zone) (r : ZoneRec) : (s.setZone z r).gov = s.gov := rfl
@[simp] theorem State.setZone_cfg (z : Zone) (r : ZoneRec) : (s.setZone z r).cfg = s.cfg := rfl
@[simp] theorem State.setZone_limits (z : Zone) (r : ZoneRec) : (s.setZone z r).limits = s.limits := rfl
@[simp] theorem State.setZone_link (z : Zone) (r : ZoneRec) : (s.setZone z r).link = s.link := rfl
@[simp] theorem State.setZone_notices (z : Zone) (r : ZoneRec) : (s.setZone z r).notices = s.notices := rfl

/-! ### `setUnit` -/

@[simp] theorem State.setUnit_pending (u : GlueUnit) (r : GlueRec) : (s.setUnit u r).pending = s.pending := rfl
@[simp] theorem State.setUnit_inbox (u : GlueUnit) (r : GlueRec) : (s.setUnit u r).inbox = s.inbox := rfl
@[simp] theorem State.setUnit_choice (u : GlueUnit) (r : GlueRec) : (s.setUnit u r).choice = s.choice := rfl
@[simp] theorem State.setUnit_tracker (u : GlueUnit) (r : GlueRec) : (s.setUnit u r).tracker = s.tracker := rfl
@[simp] theorem State.setUnit_regs (u : GlueUnit) (r : GlueRec) : (s.setUnit u r).regs = s.regs := rfl
@[simp] theorem State.setUnit_map (u : GlueUnit) (r : GlueRec) : (s.setUnit u r).map = s.map := rfl
@[simp] theorem State.setUnit_book (u : GlueUnit) (r : GlueRec) : (s.setUnit u r).book = s.book := rfl
@[simp] theorem State.setUnit_cutoff (u : GlueUnit) (r : GlueRec) : (s.setUnit u r).cutoff = s.cutoff := rfl
@[simp] theorem State.setUnit_slitter (u : GlueUnit) (r : GlueRec) : (s.setUnit u r).slitter = s.slitter := rfl
@[simp] theorem State.setUnit_stacker (u : GlueUnit) (r : GlueRec) : (s.setUnit u r).stacker = s.stacker := rfl
@[simp] theorem State.setUnit_stands (u : GlueUnit) (r : GlueRec) : (s.setUnit u r).stands = s.stands := rfl
@[simp] theorem State.setUnit_splice (u : GlueUnit) (r : GlueRec) : (s.setUnit u r).splice = s.splice := rfl
@[simp] theorem State.setUnit_scanner (u : GlueUnit) (r : GlueRec) : (s.setUnit u r).scanner = s.scanner := rfl
@[simp] theorem State.setUnit_heat (u : GlueUnit) (r : GlueRec) : (s.setUnit u r).heat = s.heat := rfl
@[simp] theorem State.setUnit_gov (u : GlueUnit) (r : GlueRec) : (s.setUnit u r).gov = s.gov := rfl
@[simp] theorem State.setUnit_cfg (u : GlueUnit) (r : GlueRec) : (s.setUnit u r).cfg = s.cfg := rfl
@[simp] theorem State.setUnit_limits (u : GlueUnit) (r : GlueRec) : (s.setUnit u r).limits = s.limits := rfl
@[simp] theorem State.setUnit_link (u : GlueUnit) (r : GlueRec) : (s.setUnit u r).link = s.link := rfl
@[simp] theorem State.setUnit_notices (u : GlueUnit) (r : GlueRec) : (s.setUnit u r).notices = s.notices := rfl

/-! ### `updStation` -/

@[simp] theorem State.updStation_pending (st : Station) (f : StationRec → StationRec) : (s.updStation st f).pending = s.pending := rfl
@[simp] theorem State.updStation_inbox (st : Station) (f : StationRec → StationRec) : (s.updStation st f).inbox = s.inbox := rfl
@[simp] theorem State.updStation_choice (st : Station) (f : StationRec → StationRec) : (s.updStation st f).choice = s.choice := rfl
@[simp] theorem State.updStation_tracker (st : Station) (f : StationRec → StationRec) : (s.updStation st f).tracker = s.tracker := rfl
@[simp] theorem State.updStation_regs (st : Station) (f : StationRec → StationRec) : (s.updStation st f).regs = s.regs := rfl
@[simp] theorem State.updStation_map (st : Station) (f : StationRec → StationRec) : (s.updStation st f).map = s.map := rfl
@[simp] theorem State.updStation_book (st : Station) (f : StationRec → StationRec) : (s.updStation st f).book = s.book := rfl
@[simp] theorem State.updStation_cutoff (st : Station) (f : StationRec → StationRec) : (s.updStation st f).cutoff = s.cutoff := rfl
@[simp] theorem State.updStation_stacker (st : Station) (f : StationRec → StationRec) : (s.updStation st f).stacker = s.stacker := rfl
@[simp] theorem State.updStation_stands (st : Station) (f : StationRec → StationRec) : (s.updStation st f).stands = s.stands := rfl
@[simp] theorem State.updStation_splice (st : Station) (f : StationRec → StationRec) : (s.updStation st f).splice = s.splice := rfl
@[simp] theorem State.updStation_scanner (st : Station) (f : StationRec → StationRec) : (s.updStation st f).scanner = s.scanner := rfl
@[simp] theorem State.updStation_heat (st : Station) (f : StationRec → StationRec) : (s.updStation st f).heat = s.heat := rfl
@[simp] theorem State.updStation_glue (st : Station) (f : StationRec → StationRec) : (s.updStation st f).glue = s.glue := rfl
@[simp] theorem State.updStation_gov (st : Station) (f : StationRec → StationRec) : (s.updStation st f).gov = s.gov := rfl
@[simp] theorem State.updStation_cfg (st : Station) (f : StationRec → StationRec) : (s.updStation st f).cfg = s.cfg := rfl
@[simp] theorem State.updStation_limits (st : Station) (f : StationRec → StationRec) : (s.updStation st f).limits = s.limits := rfl
@[simp] theorem State.updStation_link (st : Station) (f : StationRec → StationRec) : (s.updStation st f).link = s.link := rfl
@[simp] theorem State.updStation_notices (st : Station) (f : StationRec → StationRec) : (s.updStation st f).notices = s.notices := rfl

/-! ### `updateOrder` -/

@[simp] theorem State.updateOrder_pending (id : Nat) (f : Order → Order) : (s.updateOrder id f).pending = s.pending := rfl
@[simp] theorem State.updateOrder_inbox (id : Nat) (f : Order → Order) : (s.updateOrder id f).inbox = s.inbox := rfl
@[simp] theorem State.updateOrder_choice (id : Nat) (f : Order → Order) : (s.updateOrder id f).choice = s.choice := rfl
@[simp] theorem State.updateOrder_tracker (id : Nat) (f : Order → Order) : (s.updateOrder id f).tracker = s.tracker := rfl
@[simp] theorem State.updateOrder_regs (id : Nat) (f : Order → Order) : (s.updateOrder id f).regs = s.regs := rfl
@[simp] theorem State.updateOrder_map (id : Nat) (f : Order → Order) : (s.updateOrder id f).map = s.map := rfl
@[simp] theorem State.updateOrder_cutoff (id : Nat) (f : Order → Order) : (s.updateOrder id f).cutoff = s.cutoff := rfl
@[simp] theorem State.updateOrder_slitter (id : Nat) (f : Order → Order) : (s.updateOrder id f).slitter = s.slitter := rfl
@[simp] theorem State.updateOrder_stacker (id : Nat) (f : Order → Order) : (s.updateOrder id f).stacker = s.stacker := rfl
@[simp] theorem State.updateOrder_stands (id : Nat) (f : Order → Order) : (s.updateOrder id f).stands = s.stands := rfl
@[simp] theorem State.updateOrder_splice (id : Nat) (f : Order → Order) : (s.updateOrder id f).splice = s.splice := rfl
@[simp] theorem State.updateOrder_scanner (id : Nat) (f : Order → Order) : (s.updateOrder id f).scanner = s.scanner := rfl
@[simp] theorem State.updateOrder_heat (id : Nat) (f : Order → Order) : (s.updateOrder id f).heat = s.heat := rfl
@[simp] theorem State.updateOrder_glue (id : Nat) (f : Order → Order) : (s.updateOrder id f).glue = s.glue := rfl
@[simp] theorem State.updateOrder_gov (id : Nat) (f : Order → Order) : (s.updateOrder id f).gov = s.gov := rfl
@[simp] theorem State.updateOrder_cfg (id : Nat) (f : Order → Order) : (s.updateOrder id f).cfg = s.cfg := rfl
@[simp] theorem State.updateOrder_limits (id : Nat) (f : Order → Order) : (s.updateOrder id f).limits = s.limits := rfl
@[simp] theorem State.updateOrder_link (id : Nat) (f : Order → Order) : (s.updateOrder id f).link = s.link := rfl
@[simp] theorem State.updateOrder_notices (id : Nat) (f : Order → Order) : (s.updateOrder id f).notices = s.notices := rfl

/-! ### `spendChoice` -/

@[simp] theorem State.spendChoice_pending (k : Nat) : (s.spendChoice k).pending = s.pending := rfl
@[simp] theorem State.spendChoice_inbox (k : Nat) : (s.spendChoice k).inbox = s.inbox := rfl
@[simp] theorem State.spendChoice_tracker (k : Nat) : (s.spendChoice k).tracker = s.tracker := rfl
@[simp] theorem State.spendChoice_regs (k : Nat) : (s.spendChoice k).regs = s.regs := rfl
@[simp] theorem State.spendChoice_map (k : Nat) : (s.spendChoice k).map = s.map := rfl
@[simp] theorem State.spendChoice_book (k : Nat) : (s.spendChoice k).book = s.book := rfl
@[simp] theorem State.spendChoice_cutoff (k : Nat) : (s.spendChoice k).cutoff = s.cutoff := rfl
@[simp] theorem State.spendChoice_slitter (k : Nat) : (s.spendChoice k).slitter = s.slitter := rfl
@[simp] theorem State.spendChoice_stacker (k : Nat) : (s.spendChoice k).stacker = s.stacker := rfl
@[simp] theorem State.spendChoice_stands (k : Nat) : (s.spendChoice k).stands = s.stands := rfl
@[simp] theorem State.spendChoice_splice (k : Nat) : (s.spendChoice k).splice = s.splice := rfl
@[simp] theorem State.spendChoice_scanner (k : Nat) : (s.spendChoice k).scanner = s.scanner := rfl
@[simp] theorem State.spendChoice_heat (k : Nat) : (s.spendChoice k).heat = s.heat := rfl
@[simp] theorem State.spendChoice_glue (k : Nat) : (s.spendChoice k).glue = s.glue := rfl
@[simp] theorem State.spendChoice_gov (k : Nat) : (s.spendChoice k).gov = s.gov := rfl
@[simp] theorem State.spendChoice_cfg (k : Nat) : (s.spendChoice k).cfg = s.cfg := rfl
@[simp] theorem State.spendChoice_limits (k : Nat) : (s.spendChoice k).limits = s.limits := rfl
@[simp] theorem State.spendChoice_link (k : Nat) : (s.spendChoice k).link = s.link := rfl
@[simp] theorem State.spendChoice_notices (k : Nat) : (s.spendChoice k).notices = s.notices := rfl

/-! ### `setRx` -/

@[simp] theorem State.setRx_pending (st : RxState) (bs : List Byte) : (s.setRx st bs).pending = s.pending := rfl
@[simp] theorem State.setRx_inbox (st : RxState) (bs : List Byte) : (s.setRx st bs).inbox = s.inbox := rfl
@[simp] theorem State.setRx_choice (st : RxState) (bs : List Byte) : (s.setRx st bs).choice = s.choice := rfl
@[simp] theorem State.setRx_tracker (st : RxState) (bs : List Byte) : (s.setRx st bs).tracker = s.tracker := rfl
@[simp] theorem State.setRx_regs (st : RxState) (bs : List Byte) : (s.setRx st bs).regs = s.regs := rfl
@[simp] theorem State.setRx_map (st : RxState) (bs : List Byte) : (s.setRx st bs).map = s.map := rfl
@[simp] theorem State.setRx_book (st : RxState) (bs : List Byte) : (s.setRx st bs).book = s.book := rfl
@[simp] theorem State.setRx_cutoff (st : RxState) (bs : List Byte) : (s.setRx st bs).cutoff = s.cutoff := rfl
@[simp] theorem State.setRx_slitter (st : RxState) (bs : List Byte) : (s.setRx st bs).slitter = s.slitter := rfl
@[simp] theorem State.setRx_stacker (st : RxState) (bs : List Byte) : (s.setRx st bs).stacker = s.stacker := rfl
@[simp] theorem State.setRx_stands (st : RxState) (bs : List Byte) : (s.setRx st bs).stands = s.stands := rfl
@[simp] theorem State.setRx_splice (st : RxState) (bs : List Byte) : (s.setRx st bs).splice = s.splice := rfl
@[simp] theorem State.setRx_scanner (st : RxState) (bs : List Byte) : (s.setRx st bs).scanner = s.scanner := rfl
@[simp] theorem State.setRx_heat (st : RxState) (bs : List Byte) : (s.setRx st bs).heat = s.heat := rfl
@[simp] theorem State.setRx_glue (st : RxState) (bs : List Byte) : (s.setRx st bs).glue = s.glue := rfl
@[simp] theorem State.setRx_gov (st : RxState) (bs : List Byte) : (s.setRx st bs).gov = s.gov := rfl
@[simp] theorem State.setRx_cfg (st : RxState) (bs : List Byte) : (s.setRx st bs).cfg = s.cfg := rfl
@[simp] theorem State.setRx_limits (st : RxState) (bs : List Byte) : (s.setRx st bs).limits = s.limits := rfl
@[simp] theorem State.setRx_notices (st : RxState) (bs : List Byte) : (s.setRx st bs).notices = s.notices := rfl

@[simp] theorem State.post_inbox (e : Ev) : (s.post e).inbox = s.inbox ++ [e] := rfl
@[simp] theorem State.postFirst_inbox (e : Ev) : (s.postFirst e).inbox = e :: s.inbox := rfl
@[simp] theorem State.postAll_inbox (es : List Ev) : (s.postAll es).inbox = s.inbox ++ es := rfl
@[simp] theorem State.withdraw_inbox (p : Purpose) : (s.withdraw p).inbox = s.inbox.filter (Ev.notFor p) := rfl
@[simp] theorem State.withdraw_regs (p : Purpose) : (s.withdraw p).regs = s.regs.put p none := rfl
@[simp] theorem State.mark_notices (i : NoticeSource) : (s.mark i).notices = s.notices.markChanged i := rfl
@[simp] theorem State.raise_notices (i : NoticeSource) (d : EventData) : (s.raise i d).notices = s.notices.occur i d := rfl
@[simp] theorem State.setHeat_zones (z : Zone) (r : ZoneRec) : (s.setZone z r).heat.zones = tset s.heat.zones z r := rfl
@[simp] theorem State.setZone_header (z : Zone) (r : ZoneRec) : (s.setZone z r).heat.header = s.heat.header := rfl
@[simp] theorem State.setZone_pressureOk (z : Zone) (r : ZoneRec) : (s.setZone z r).heat.pressureOk = s.heat.pressureOk := rfl
@[simp] theorem State.setZone_settle (z : Zone) (r : ZoneRec) : (s.setZone z r).heat.settle = s.heat.settle := rfl
@[simp] theorem State.setZone_slow (z : Zone) (r : ZoneRec) : (s.setZone z r).heat.slow = s.heat.slow := rfl
@[simp] theorem State.setUnit_motion (u : GlueUnit) (r : GlueRec) : (s.setUnit u r).glue.motion = s.glue.motion := rfl

/-! ### Tables -/

/-- An entry written is read back. -/
@[simp] theorem tget_tset_same {α : Type} {n : Nat} (t : Vector α n) (i : Fin n) (x : α) : tget (tset t i x) i = x := by
  simp [tget, tset]

/-- Another entry is not touched. -/
theorem tget_tset_other {α : Type} {n : Nat} (t : Vector α n) {i j : Fin n} (x : α) (h : j ≠ i) :
    tget (tset t i x) j = tget t j := by
  have : i.val ≠ j.val := fun e => h (Fin.ext e.symm)
  simp [tget, tset, Vector.getElem_set_ne, this]

/-- Reading a table after a write. -/
theorem tget_tset {α : Type} {n : Nat} (t : Vector α n) (i j : Fin n) (x : α) :
    tget (tset t i x) j = if j = i then x else tget t j := by
  split
  · next h => subst h; simp
  · next h => exact tget_tset_other t x h

/-- Every entry of a table of one value is that value. -/
@[simp] theorem tget_tfill {α : Type} {n : Nat} (x : α) (i : Fin n) : tget (tfill n x) i = x := by simp [tget, tfill]

/-- Reading a table given by a function. -/
@[simp] theorem tget_ofFn {α : Type} {n : Nat} (f : Fin n → α) (i : Fin n) : tget (Vector.ofFn f) i = f i := by
  simp [tget]

/-- A table is known by its entries. -/
theorem table_ext {α : Type} {n : Nat} {t u : Vector α n} (h : ∀ i, tget t i = tget u i) : t = u := by
  ext i hi
  exact h ⟨i, hi⟩

/-- Writing what stands there changes nothing. -/
@[simp] theorem tset_tget {α : Type} {n : Nat} (t : Vector α n) (i : Fin n) : tset t i (tget t i) = t := by
  apply table_ext
  intro j
  rw [tget_tset]
  split
  · next h => rw [h]
  · rfl

/-! ### Instances read back -/

@[simp] theorem State.stand_setStand (n : Stand) (r : StandRec) : (s.setStand n r).stand n = r := by
  simp [State.stand, State.setStand]
theorem State.stand_setStand_other {n k : Stand} (r : StandRec) (h : k ≠ n) : (s.setStand n r).stand k = s.stand k := by
  simp [State.stand, State.setStand, tget_tset_other _ _ h]
@[simp] theorem State.spl_setSpl (n : Stand) (r : SpliceRec) : (s.setSpl n r).spl n = r := by
  simp [State.spl, State.setSpl]
theorem State.spl_setSpl_other {n k : Stand} (r : SpliceRec) (h : k ≠ n) : (s.setSpl n r).spl k = s.spl k := by
  simp [State.spl, State.setSpl, tget_tset_other _ _ h]
@[simp] theorem State.zone_setZone (z : Zone) (r : ZoneRec) : (s.setZone z r).zone z = r := by
  simp [State.zone, State.setZone]
theorem State.zone_setZone_other {z k : Zone} (r : ZoneRec) (h : k ≠ z) : (s.setZone z r).zone k = s.zone k := by
  simp [State.zone, State.setZone, tget_tset_other _ _ h]
@[simp] theorem State.unit_setUnit (u : GlueUnit) (r : GlueRec) : (s.setUnit u r).unit u = r := by
  simp [State.unit, State.setUnit]
theorem State.unit_setUnit_other {u k : GlueUnit} (r : GlueRec) (h : k ≠ u) : (s.setUnit u r).unit k = s.unit k := by
  simp [State.unit, State.setUnit, tget_tset_other _ _ h]

/-! ### Reporting a map change -/

/-- A map change reported is one event more: after all that waits, or right before the crossing of the freeze, the first that waits. -/
theorem State.reportMapChange_eq : ∃ (l r : List Ev) (c : Nat), s.inbox = l ++ r ∧
    s.reportMapChange = { s with inbox := l ++ Ev.mapChange :: r, choice := c } ∧
    (r = [] ∨ (∀ e ∈ l, e.notFor .freeze = true) ∧ ∃ e r', r = e :: r' ∧ e.notFor .freeze = false) := by
  unfold State.reportMapChange
  split
  · exact ⟨s.inbox, [], s.choice, by simp, rfl, .inl rfl⟩
  · next h =>
    split
    · exact ⟨s.inbox, [], s.choice + 1, by simp, rfl, .inl rfl⟩
    · refine ⟨_, _, _, List.takeWhile_append_dropWhile.symm, rfl, ?_⟩
      cases hd : s.inbox.dropWhile (Ev.notFor .freeze) with
      | nil => exact .inl rfl
      | cons e r =>
        refine .inr ⟨fun x hx => List.mem_takeWhile_imp hx, e, r, rfl, ?_⟩
        have := List.head_dropWhile_not (p := Ev.notFor .freeze) (l := s.inbox) (by simp [hd])
        simpa [hd] using this

/-! ### The map as E rises -/

@[simp] theorem mem_mapTurn (e : Pos) (l : List Span) (x : Span) : x ∈ mapTurn e l ↔ x ∈ l := by
  cases h : x.turned e <;> simp [mapTurn, h]
@[simp] theorem length_mapTurn (e : Pos) (l : List Span) : (mapTurn e l).length = l.length := by
  induction l with
  | nil => rfl
  | cons x l ih =>
    simp only [mapTurn, List.length_append] at ih
    cases h : x.turned e <;> simp [mapTurn, h] <;> omega

end Sys2Proof.Machine
end

