-- ==== Sys2Proof/Laws/Records.lean ====
section
/-! SUPPORT. Reading back the records of requests: grades, orders, rolls and the five sections. -/

namespace Sys2Proof.Machine

theorem reads_breakpoint {b : Breakpoint} (h : b.wf = true) : Reads rdBreakpoint b (Breakpoint.enc b) := by
  simp only [Breakpoint.wf, Bool.and_eq_true] at h
  exact reads_andThen (reads_rd16 h.1) (reads_last (reads_rd16 h.2))

theorem reads_pair {a b : Nat} (ha : fits16 a = true) (hb : fits16 b = true) : Reads rdPair (a, b) (u16 a ++ u16 b) :=
  reads_andThen (reads_rd16 ha) (reads_last (reads_rd16 hb))

/-- A table encoded entry by entry from another table. -/
theorem encTable_map {α β : Type} {n : Nat} (e : β → List Byte) (g : α → β) (v : Vector α n) :
    encTable (fun x => e (g x)) v = encTable e (v.map g) := by
  simp only [encTable, Vector.toList_map, List.flatMap_map]

theorem all_toList {α : Type} {n : Nat} {p : α → Bool} {v : Vector α n} (h : v.toList.all p = true) :
    ∀ x ∈ v.toList, p x = true := List.all_eq_true.mp h

theorem zipZones_map (v : Vector ZoneRecipe 12) :
    zipZones (v.map (·.setpoint)) (v.map (fun z => (z.low, z.high))) (v.map (·.base)) = v := by
  apply table_ext
  intro i
  simp [zipZones, tget]

theorem reads_grade {g : Grade} (h : g.wf = true) : Reads rdGrade g (Grade.enc g) := by
  simp only [Grade.wf, Bool.and_eq_true] at h
  obtain ⟨⟨⟨hk, hz⟩, hg⟩, hc⟩ := h
  have hz' := all_toList hz
  simp only [ZoneRecipe.wf, Bool.and_eq_true] at hz'
  have hu := all_toList hg
  have e1 : encTable (fun z : ZoneRecipe => u16 z.setpoint) g.zones = encTable u16 (g.zones.map (·.setpoint)) :=
    encTable_map u16 _ _
  have e2 : encTable (fun z : ZoneRecipe => u16 z.low ++ u16 z.high) g.zones =
      encTable (fun p : Nat × Nat => u16 p.1 ++ u16 p.2) (g.zones.map (fun z => (z.low, z.high))) :=
    encTable_map (fun p : Nat × Nat => u16 p.1 ++ u16 p.2) (fun z : ZoneRecipe => (z.low, z.high)) g.zones
  have e3 : encTable (fun z : ZoneRecipe => u16 z.base) g.zones = encTable u16 (g.zones.map (·.base)) :=
    encTable_map u16 _ _
  have r1 : Reads (rdTable rd8 7) g.kinds (encTable u8 g.kinds) :=
    reads_rdTable _ (fun x hx => reads_rd8 (all_toList hk x hx))
  have r2 : Reads (rdTable rd16 12) (g.zones.map (·.setpoint)) (encTable u16 (g.zones.map (·.setpoint))) := by
    apply reads_rdTable
    intro x hx
    simp only [Vector.toList_map, List.mem_map] at hx
    obtain ⟨z, hz1, rfl⟩ := hx
    exact reads_rd16 (hz' z hz1).1.1.1
  have r3 : Reads (rdTable rdPair 12) (g.zones.map (fun z => (z.low, z.high)))
      (encTable (fun p : Nat × Nat => u16 p.1 ++ u16 p.2) (g.zones.map (fun z => (z.low, z.high)))) := by
    apply reads_rdTable
    intro x hx
    simp only [Vector.toList_map, List.mem_map] at hx
    obtain ⟨z, hz1, rfl⟩ := hx
    exact reads_pair (hz' z hz1).1.1.2 (hz' z hz1).1.2
  have r4 : Reads (rdTable rd16 12) (g.zones.map (·.base)) (encTable u16 (g.zones.map (·.base))) := by
    apply reads_rdTable
    intro x hx
    simp only [Vector.toList_map, List.mem_map] at hx
    obtain ⟨z, hz1, rfl⟩ := hx
    exact reads_rd16 (hz' z hz1).2
  have r5 : Reads (rdTable (rdTable rdBreakpoint 4) 4) g.glue (encTable encGlueRecipe g.glue) :=
    reads_rdTable _ (fun u hx => reads_rdTable u (fun b hb => reads_breakpoint (all_toList (hu u hx) b hb)))
  have r6 := reads_rd16 hc
  intro l
  simp only [Grade.enc, e1, e2, e3, rdGrade, andThen, done, List.append_assoc, r1, r2, r3, r4, r5, r6, zipZones_map]

theorem reads_order {o : OrderSpec} (h : o.wf = true) : Reads rdOrder o (OrderSpec.enc o) := by
  simp only [OrderSpec.wf, Bool.and_eq_true, listFits, decide_eq_true_eq, List.all_eq_true] at h
  obtain ⟨⟨⟨⟨⟨⟨⟨⟨⟨⟨h1, h2⟩, h3⟩, h4⟩, h5⟩, h6⟩, h7⟩, h8⟩, h9⟩, h10⟩, h11⟩ := h
  have r8 : Reads (rdList rd16) o.slits (encList u16 o.slits) := reads_rdList h8.1 (fun x hx => reads_rd16 (h8.2 x hx))
  have r9 : Reads (rdList rd16) o.scores (encList u16 o.scores) := reads_rdList h9.1 (fun x hx => reads_rd16 (h9.2 x hx))
  have r10 : Reads (rdOpt rd16) o.cap (encOpt u16 o.cap) :=
    reads_rdOpt (fun x hx => reads_rd16 (by simpa [hx] using h10))
  have r11 : Reads (rdOpt rd8) o.interval (encOpt u8 o.interval) :=
    reads_rdOpt (fun x hx => reads_rd8 (by simpa [hx] using h11))
  intro l
  simp only [OrderSpec.enc, rdOrder, andThen, done, List.append_assoc, reads_rd32 h1, reads_rd8 h2, reads_rd32 h3,
    reads_rd32 h4, reads_rd16 h5, reads_rd16 h6, reads_rd16 h7, r8, r9, r10, r11]

theorem reads_roll {r : RollSpec} (h : r.wf = true) : Reads rdRoll r (RollSpec.enc r) := by
  simp only [RollSpec.wf, Bool.and_eq_true] at h
  obtain ⟨⟨⟨⟨⟨h1, h2⟩, h3⟩, h4⟩, h5⟩, h6⟩ := h
  intro l
  simp only [RollSpec.enc, rdRoll, andThen, done, List.append_assoc, reads_rd32 h1, reads_rd8 h2, reads_rd16 h3,
    reads_rd16 h4, reads_rd8 h5, reads_rd16 h6]

theorem reads_geometry {g : Geometry} (h : g.wf = true) : Reads rdGeometry g (Geometry.enc g) := by
  simp only [Geometry.wf, Bool.and_eq_true] at h
  obtain ⟨⟨⟨⟨⟨⟨⟨⟨⟨h1, h2⟩, h3⟩, h4⟩, h5⟩, h6⟩, h7⟩, h8⟩, h9⟩, h10⟩ := h
  have t {n : Nat} {v : Vector Nat n} (hv : v.toList.all fits32 = true) : Reads (rdTable rd32 n) v (encTable u32 v) :=
    reads_rdTable v (fun x hx => reads_rd32 (all_toList hv x hx))
  intro l
  simp only [Geometry.enc, rdGeometry, andThen, done, List.append_assoc, reads_rd16 h1, reads_rd32 h2, reads_rd16 h3,
    reads_rd32 h4, reads_rd32 h5, reads_rd32 h6, reads_rd32 h7, t h8, t h9, t h10]

theorem reads_standCfg {c : StandCfg} (h : c.wf = true) : Reads rdStandCfg c (StandCfg.enc c) := by
  simp only [StandCfg.wf, Bool.and_eq_true] at h
  obtain ⟨⟨⟨⟨⟨⟨⟨⟨⟨⟨h1, h2⟩, h3⟩, h4⟩, h5⟩, h6⟩, h7⟩, h8⟩, h9⟩, h10⟩, h11⟩ := h
  intro l
  simp only [StandCfg.enc, rdStandCfg, andThen, done, List.append_assoc, reads_rd16 h1, reads_rd16 h2, reads_rd8 h3,
    reads_rd16 h4, reads_rd16 h5, reads_rd16 h6, reads_rd32 h7, reads_rd32 h8, reads_rd32 h9, reads_rd32 h10,
    reads_rd32 h11]

theorem reads_dryEnd {d : DryEnd} (h : d.wf = true) : Reads rdDryEnd d (DryEnd.enc d) := by
  simp only [DryEnd.wf, Bool.and_eq_true] at h
  obtain ⟨⟨⟨⟨⟨h1, h2⟩, h3⟩, h4⟩, h5⟩, h6⟩ := h
  intro l
  simp only [DryEnd.enc, rdDryEnd, andThen, done, List.append_assoc, reads_rd16 h1, reads_rd16 h2, reads_rd32 h3,
    reads_rd16 h4, reads_rd8 h5, reads_rd8 h6]

/-- Sixteen channels are twelve probes and four sensors. -/
theorem channels_split (v : Vector Scaling 16) :
    v = (Vector.ofFn fun i : Fin 12 => v[i.val]) ++ (Vector.ofFn fun i : Fin 4 => v[12 + i.val]) := by
  ext i hi
  rw [Vector.getElem_append]
  split
  · simp
  · next h => simp [show 12 + (i - 12) = i by omega]

theorem take_channels (v : Vector Scaling 16) :
    v.toList.take 12 = (Vector.ofFn fun i : Fin 12 => v[i.val]).toList := by
  apply List.ext_getElem <;> simp

theorem drop_channels (v : Vector Scaling 16) :
    v.toList.drop 12 = (Vector.ofFn fun i : Fin 4 => v[12 + i.val]).toList := by
  apply List.ext_getElem <;> simp

theorem reads_zones {z : ZonesCfg} (h : z.wf = true) : Reads rdZones z (ZonesCfg.enc z) := by
  simp only [ZonesCfg.wf, Bool.and_eq_true, take_channels, drop_channels] at h
  obtain ⟨⟨⟨⟨⟨⟨⟨⟨⟨⟨⟨⟨h1, h2⟩, h3⟩, h4⟩, h5⟩, h6⟩, h7⟩, h8⟩, h9⟩, h10⟩, h11⟩, h12⟩, h13⟩ := h
  have p2 := all_toList h2
  have p3 := all_toList h3
  have p4 := all_toList h4
  simp only [Bool.and_eq_true] at p2 p3 p4
  have probe {c : Scaling} (h : fitsI16 c.lo = true ∧ fitsI16 c.hi = true) : Reads rdProbe c (i16 c.lo ++ i16 c.hi) :=
    reads_andThen (reads_rdI16 h.1) (reads_last (k := fun hi => Scaling.mk c.lo hi) (reads_rdI16 h.2))
  have sensor {c : Scaling} (h : fitsN16 c.lo = true ∧ fitsN16 c.hi = true) : Reads rdSensor c (i16 c.lo ++ i16 c.hi) :=
    reads_andThen (reads_rdN16 h.1) (reads_last (k := fun hi => Scaling.mk c.lo hi) (reads_rdN16 h.2))
  have gain {g : Gains} (h : fits8 g.kp = true ∧ fits8 g.ki = true) : Reads rdGains g (u8 g.kp ++ u8 g.ki) :=
    reads_andThen (reads_rd8 h.1) (reads_last (k := fun ki => Gains.mk g.kp ki) (reads_rd8 h.2))
  have r2 := reads_rdTable (f := rdProbe) (e := fun c => i16 c.lo ++ i16 c.hi)
    (Vector.ofFn fun i : Fin 12 => z.channels[i.val]) (fun c hc => probe (p2 c hc))
  have r3 := reads_rdTable (f := rdSensor) (e := fun c => i16 c.lo ++ i16 c.hi)
    (Vector.ofFn fun i : Fin 4 => z.channels[12 + i.val]) (fun c hc => sensor (p3 c hc))
  have r4 := reads_rdTable (f := rdGains) (e := fun g => u8 g.kp ++ u8 g.ki) z.gains (fun g hg => gain (p4 g hg))
  have e : encTable (fun c : Scaling => i16 c.lo ++ i16 c.hi) z.channels =
      encTable (fun c => i16 c.lo ++ i16 c.hi) (Vector.ofFn fun i : Fin 12 => z.channels[i.val]) ++
        encTable (fun c => i16 c.lo ++ i16 c.hi) (Vector.ofFn fun i : Fin 4 => z.channels[12 + i.val]) := by
    conv_lhs => rw [channels_split z.channels]
    simp only [encTable, Vector.toList_append, List.flatMap_append]
  intro l
  simp only [ZonesCfg.enc, rdZones, andThen, done, e, List.append_assoc, reads_rd8 h1, r2, r3, r4, reads_rd8 h5,
    reads_rd8 h6, reads_rd16 h7, reads_rd16 h8, reads_rd16 h9, reads_rd16 h10, reads_rd8 h11, reads_rd8 h12,
    reads_rd8 h13, ← channels_split]

theorem reads_governor {g : GovCfg} (h : g.wf = true) : Reads rdGovernor g (GovCfg.enc g) := by
  simp only [GovCfg.wf, Bool.and_eq_true] at h
  obtain ⟨⟨⟨⟨⟨h1, h2⟩, h3⟩, h4⟩, h5⟩, h6⟩ := h
  intro l
  simp only [GovCfg.enc, rdGovernor, andThen, done, List.append_assoc, reads_rd8 h1, reads_rd8 h2, reads_rd16 h3,
    reads_rd16 h4, reads_rd16 h5, reads_rd16 h6]

end Sys2Proof.Machine
end

