-- ==== Sys2Proof/Laws/PerInstr.lean ====
section
/-! SUPPORT. The family Codec: what each command says of its request frame (R193, sections 2.1, 2.2, 6.2, 11.6). A request
list command that is well formed reads back from the frame it is written to; every other command has no request frame. -/

namespace Sys2Proof.Machine

/-- A request reads back when the reader of its kind reads back what its payload holds. -/
theorem decodeRequest_reads {f : Frame} {r : Reader Instr} {i : Instr} (hr : readerOf f.kind f.tag = some r)
    (h : Reads r i f.payload) : decodeRequest f = .ok i := by
  have := h []
  rw [List.append_nil] at this
  simp only [decodeRequest, hr, this]

/-- The section code and its fields read back; a code other than the five carries none (R172 check 1). -/
theorem decode_section {sec : Section} (h : sec.wf = true) : rdSection (Section.enc sec) = some (sec, []) := by
  cases sec with
  | geometry g =>
    have t := reads_geometry (g := g) h []
    rw [List.append_nil] at t
    simp [rdSection, Section.enc, andThen, done, reads_rd8 (n := 0) rfl, t]
  | stands v =>
    have t := reads_rdTable v (fun c hc => reads_standCfg (all_toList (by simpa [Section.wf] using h) c hc)) []
    rw [List.append_nil] at t
    simp [rdSection, Section.enc, andThen, done, reads_rd8 (n := 1) rfl, t]
  | dryend d =>
    have t := reads_dryEnd (d := d) h []
    rw [List.append_nil] at t
    simp [rdSection, Section.enc, andThen, done, reads_rd8 (n := 2) rfl, t]
  | zones z =>
    have t := reads_zones (z := z) h []
    rw [List.append_nil] at t
    simp [rdSection, Section.enc, andThen, done, reads_rd8 (n := 3) rfl, t]
  | governor g =>
    have t := reads_governor (g := g) h []
    rw [List.append_nil] at t
    simp [rdSection, Section.enc, andThen, done, reads_rd8 (n := 4) rfl, t]
  | other k =>
    simp only [Section.wf, Bool.and_eq_true, decide_eq_true_eq] at h
    have t := reads_rd8 (n := k) h.2 []
    rw [List.append_nil] at t
    obtain ⟨k', rfl⟩ : ∃ k', k = k' + 5 := ⟨k - 5, by omega⟩
    simp [rdSection, Section.enc, andThen, t]

end Sys2Proof.Machine

namespace Sys2Proof.Laws.Codec

open Sys2Proof Sys2Proof.Machine

/-- What the command says of its request frame. -/
def Statement (i : Instr) : Prop := i.wf = true → ∀ f, encodeRequest i = some f → decodeRequest f = .ok i

theorem powerOn (strap1 strap2 estop pressure : Bool) : Statement (.powerOn strap1 strap2 estop pressure) :=
  fun _ _ h => by cases h

theorem resetPart (tag : Byte) : Statement (.resetPart tag) := by
  intro h f hf
  cases hf
  exact decodeRequest_reads rfl (fun _ => rfl)

theorem forwardCount : Statement .forwardCount :=
  fun _ _ h => by cases h

theorem reverseCount : Statement .reverseCount :=
  fun _ _ h => by cases h

theorem governorPeriodExpiry : Statement .governorPeriodExpiry :=
  fun _ _ h => by cases h

theorem planRefreshExpiry : Statement .planRefreshExpiry :=
  fun _ _ h => by cases h

theorem zonePeriodExpiry : Statement .zonePeriodExpiry :=
  fun _ _ h => by cases h

theorem knifeCycleExpiry : Statement .knifeCycleExpiry :=
  fun _ _ h => by cases h

theorem setTimerExpiry (st : Station) : Statement (.setTimerExpiry st) :=
  fun _ _ h => by cases h

theorem setDone (st : Station) : Statement (.setDone st) :=
  fun _ _ h => by cases h

theorem pasteFail (n : Stand) : Statement (.pasteFail n) :=
  fun _ _ h => by cases h

theorem cutFail (n : Stand) : Statement (.cutFail n) :=
  fun _ _ h => by cases h

theorem transferExpiry (n : Stand) : Statement (.transferExpiry n) :=
  fun _ _ h => by cases h

theorem pasted (n : Stand) : Statement (.pasted n) :=
  fun _ _ h => by cases h

theorem cutInput (n : Stand) : Statement (.cutInput n) :=
  fun _ _ h => by cases h

theorem webLost (n : Stand) : Statement (.webLost n) :=
  fun _ _ h => by cases h

theorem prepared (n : Stand) : Statement (.prepared n) :=
  fun _ _ h => by cases h

theorem transferDone : Statement .transferDone :=
  fun _ _ h => by cases h

theorem stackTaken : Statement .stackTaken :=
  fun _ _ h => by cases h

theorem arrived (u : GlueUnit) : Statement (.arrived u) :=
  fun _ _ h => by cases h

theorem moveTimerExpiry (u : GlueUnit) : Statement (.moveTimerExpiry u) :=
  fun _ _ h => by cases h

theorem pressureOkChange (ok : Bool) : Statement (.pressureOkChange ok) :=
  fun _ _ h => by cases h

theorem settleExpiry : Statement .settleExpiry :=
  fun _ _ h => by cases h

theorem conversionComplete (raw : Raw) : Statement (.conversionComplete raw) :=
  fun _ _ h => by cases h

theorem holdExpiry (z : Zone) : Statement (.holdExpiry z) :=
  fun _ _ h => by cases h

theorem belowTimerExpiry (z : Zone) : Statement (.belowTimerExpiry z) :=
  fun _ _ h => by cases h

theorem estopAssert : Statement .estopAssert :=
  fun _ _ h => by cases h

theorem estopRelease : Statement .estopRelease :=
  fun _ _ h => by cases h

theorem byteReceived (b : Byte) (stopHigh : Bool) : Statement (.byteReceived b stopHigh) :=
  fun _ _ h => by cases h

theorem gapTimerExpiry : Statement .gapTimerExpiry :=
  fun _ _ h => by cases h

theorem lastByteSent : Statement .lastByteSent :=
  fun _ _ h => by cases h

theorem unknownRequest (kind tag : Byte) : Statement (.unknownRequest kind tag) :=
  fun _ _ h => by cases h

theorem configure (tag : Byte) (sec : Section) : Statement (.configure tag sec) := by
  intro h f hf
  cases hf
  have t := decode_section (sec := sec) h
  simp [decodeRequest, readerOf, andThen, done, t]

theorem run (tag : Byte) : Statement (.run tag) := by
  intro h f hf
  cases hf
  exact decodeRequest_reads rfl (fun _ => rfl)

theorem stop (tag : Byte) : Statement (.stop tag) := by
  intro h f hf
  cases hf
  exact decodeRequest_reads rfl (fun _ => rfl)

theorem setSpeed (tag : Byte) (speed : Nat) : Statement (.setSpeed tag speed) := by
  intro h f hf
  cases hf
  exact decodeRequest_reads rfl (fun l => by
    simp only [andThen, done, reads_rd16 h])

theorem resume (tag : Byte) : Statement (.resume tag) := by
  intro h f hf
  cases hf
  exact decodeRequest_reads rfl (fun _ => rfl)

theorem readLine (tag : Byte) : Statement (.readLine tag) := by
  intro h f hf
  cases hf
  exact decodeRequest_reads rfl (fun _ => rfl)

theorem addReject (tag : Byte) (start stop : Pos) : Statement (.addReject tag start stop) := by
  intro h f hf
  cases hf
  exact decodeRequest_reads rfl (fun l => by
    simp only [andThen, done, List.append_assoc, reads_rdPos])

theorem readMap (tag : Byte) : Statement (.readMap tag) := by
  intro h f hf
  cases hf
  exact decodeRequest_reads rfl (fun _ => rfl)

theorem setGrade (tag : Byte) (code : Nat) (g : Grade) : Statement (.setGrade tag code g) := by
  intro h f hf
  cases hf
  simp only [Instr.wf, Bool.and_eq_true] at h
  exact decodeRequest_reads rfl (fun l => by
    simp only [andThen, done, List.append_assoc, reads_rd8 h.1, reads_grade h.2])

theorem readGrade (tag : Byte) (code : Nat) : Statement (.readGrade tag code) := by
  intro h f hf
  cases hf
  exact decodeRequest_reads rfl (fun l => by
    simp only [andThen, done, reads_rd8 h])

theorem addOrder (tag : Byte) (o : OrderSpec) : Statement (.addOrder tag o) := by
  intro h f hf
  cases hf
  exact decodeRequest_reads rfl (fun l => by
    simp only [andThen, done, reads_order h])

theorem changeCount (tag : Byte) (id ordered allowance : Nat) : Statement (.changeCount tag id ordered allowance) := by
  intro h f hf
  cases hf
  simp only [Instr.wf, Bool.and_eq_true] at h
  exact decodeRequest_reads rfl (fun l => by
    simp only [andThen, done, List.append_assoc, reads_rd32 h.1.1, reads_rd32 h.1.2, reads_rd16 h.2])

theorem cancelOrder (tag : Byte) (id : Nat) : Statement (.cancelOrder tag id) := by
  intro h f hf
  cases hf
  exact decodeRequest_reads rfl (fun l => by
    simp only [andThen, done, reads_rd32 h])

theorem readOrder (tag : Byte) (id : Nat) : Statement (.readOrder tag id) := by
  intro h f hf
  cases hf
  exact decodeRequest_reads rfl (fun l => by
    simp only [andThen, done, reads_rd32 h])

theorem listOrders (tag : Byte) : Statement (.listOrders tag) := by
  intro h f hf
  cases hf
  exact decodeRequest_reads rfl (fun _ => rfl)

theorem readCompleted (tag : Byte) : Statement (.readCompleted tag) := by
  intro h f hf
  cases hf
  exact decodeRequest_reads rfl (fun _ => rfl)

theorem holdKnife (tag : Byte) : Statement (.holdKnife tag) := by
  intro h f hf
  cases hf
  exact decodeRequest_reads rfl (fun _ => rfl)

theorem releaseKnife (tag : Byte) : Statement (.releaseKnife tag) := by
  intro h f hf
  cases hf
  exact decodeRequest_reads rfl (fun _ => rfl)

theorem readKnife (tag : Byte) : Statement (.readKnife tag) := by
  intro h f hf
  cases hf
  exact decodeRequest_reads rfl (fun _ => rfl)

theorem clearStation (tag : Byte) (station : Nat) : Statement (.clearStation tag station) := by
  intro h f hf
  cases hf
  exact decodeRequest_reads rfl (fun l => by
    simp only [andThen, done, reads_rd8 h])

theorem readSlitter (tag : Byte) : Statement (.readSlitter tag) := by
  intro h f hf
  cases hf
  exact decodeRequest_reads rfl (fun _ => rfl)

theorem readStacker (tag : Byte) : Statement (.readStacker tag) := by
  intro h f hf
  cases hf
  exact decodeRequest_reads rfl (fun _ => rfl)

theorem loadRoll (tag : Byte) (stand arm : Nat) (r : RollSpec) : Statement (.loadRoll tag stand arm r) := by
  intro h f hf
  cases hf
  simp only [Instr.wf, Bool.and_eq_true] at h
  exact decodeRequest_reads rfl (fun l => by
    simp only [andThen, done, List.append_assoc, reads_rd8 h.1.1, reads_rd8 h.1.2, reads_roll h.2])

theorem markReady (tag : Byte) (stand arm : Nat) : Statement (.markReady tag stand arm) := by
  intro h f hf
  cases hf
  simp only [Instr.wf, Bool.and_eq_true] at h
  exact decodeRequest_reads rfl (fun l => by
    simp only [andThen, done, List.append_assoc, reads_rd8 h.1, reads_rd8 h.2])

theorem unloadRoll (tag : Byte) (stand arm : Nat) : Statement (.unloadRoll tag stand arm) := by
  intro h f hf
  cases hf
  simp only [Instr.wf, Bool.and_eq_true] at h
  exact decodeRequest_reads rfl (fun l => by
    simp only [andThen, done, List.append_assoc, reads_rd8 h.1, reads_rd8 h.2])

theorem thread (tag : Byte) (stand arm : Nat) : Statement (.thread tag stand arm) := by
  intro h f hf
  cases hf
  simp only [Instr.wf, Bool.and_eq_true] at h
  exact decodeRequest_reads rfl (fun l => by
    simp only [andThen, done, List.append_assoc, reads_rd8 h.1, reads_rd8 h.2])

theorem clearStand (tag : Byte) (stand : Nat) (arm : Option Nat) : Statement (.clearStand tag stand arm) := by
  intro h f hf
  cases hf
  simp only [Instr.wf, Bool.and_eq_true] at h
  have m_reads : Reads (rdOpt rd8) arm (encOpt u8 arm) := reads_rdOpt (fun x hx => reads_rd8 (by simpa [hx] using h.2))
  exact decodeRequest_reads rfl (fun l => by
    simp only [andThen, done, List.append_assoc, reads_rd8 h.1, m_reads])

theorem readStand (tag : Byte) (stand : Nat) : Statement (.readStand tag stand) := by
  intro h f hf
  cases hf
  exact decodeRequest_reads rfl (fun l => by
    simp only [andThen, done, reads_rd8 h])

theorem spliceNow (tag : Byte) (stand : Nat) : Statement (.spliceNow tag stand) := by
  intro h f hf
  cases hf
  exact decodeRequest_reads rfl (fun l => by
    simp only [andThen, done, reads_rd8 h])

theorem cancelSplice (tag : Byte) (stand : Nat) : Statement (.cancelSplice tag stand) := by
  intro h f hf
  cases hf
  exact decodeRequest_reads rfl (fun l => by
    simp only [andThen, done, reads_rd8 h])

theorem readSplice (tag : Byte) (stand : Nat) : Statement (.readSplice tag stand) := by
  intro h f hf
  cases hf
  exact decodeRequest_reads rfl (fun l => by
    simp only [andThen, done, reads_rd8 h])

theorem setSupply (tag : Byte) (on : Nat) : Statement (.setSupply tag on) := by
  intro h f hf
  cases hf
  exact decodeRequest_reads rfl (fun l => by
    simp only [andThen, done, reads_rd8 h])

theorem enableZone (tag : Byte) (zone on : Nat) : Statement (.enableZone tag zone on) := by
  intro h f hf
  cases hf
  simp only [Instr.wf, Bool.and_eq_true] at h
  exact decodeRequest_reads rfl (fun l => by
    simp only [andThen, done, List.append_assoc, reads_rd8 h.1, reads_rd8 h.2])

theorem readZones (tag : Byte) : Statement (.readZones tag) := by
  intro h f hf
  cases hf
  exact decodeRequest_reads rfl (fun _ => rfl)

theorem clearGlue (tag : Byte) (unit : Nat) : Statement (.clearGlue tag unit) := by
  intro h f hf
  cases hf
  exact decodeRequest_reads rfl (fun l => by
    simp only [andThen, done, reads_rd8 h])

theorem readGlue (tag : Byte) : Statement (.readGlue tag) := by
  intro h f hf
  cases hf
  exact decodeRequest_reads rfl (fun _ => rfl)

theorem setLevel (tag : Byte) (source level : Nat) : Statement (.setLevel tag source level) := by
  intro h f hf
  cases hf
  simp only [Instr.wf, Bool.and_eq_true] at h
  exact decodeRequest_reads rfl (fun l => by
    simp only [andThen, done, List.append_assoc, reads_rd8 h.1, reads_rd8 h.2])

theorem setThreshold (tag : Byte) (threshold : Nat) : Statement (.setThreshold tag threshold) := by
  intro h f hf
  cases hf
  exact decodeRequest_reads rfl (fun l => by
    simp only [andThen, done, reads_rd8 h])

theorem readSummary (tag : Byte) : Statement (.readSummary tag) := by
  intro h f hf
  cases hf
  exact decodeRequest_reads rfl (fun _ => rfl)

end Sys2Proof.Laws.Codec
end

