-- ==== Sys2Proof/Laws/Hub.lean ====
section
/-! SUPPORT. The hub of the state through a cascade: every event but a few leaves it as it is. -/

namespace Sys2Proof.Machine


/-! ### Which events are calm -/

@[simp] theorem calm_crossing (p : Purpose) (at_ : Pos) : Ev.calm (Ev.crossing p at_) = true := by simp [Ev.calm]
@[simp] theorem calm_decrement (n : Stand) : Ev.calm (Ev.decrement n) = false := by simp [Ev.calm]
@[simp] theorem calm_motionSet : Ev.calm Ev.motionSet = true := by simp [Ev.calm]
@[simp] theorem calm_mapChange : Ev.calm Ev.mapChange = true := by simp [Ev.calm]
@[simp] theorem calm_orderChange : Ev.calm Ev.orderChange = true := by simp [Ev.calm]
@[simp] theorem calm_headStart : Ev.calm Ev.headStart = true := by simp [Ev.calm]
@[simp] theorem calm_endFrozen : Ev.calm Ev.endFrozen = true := by simp [Ev.calm]
@[simp] theorem calm_handover (n : Stand) (b : Pos) (kind id : Nat) : Ev.calm (Ev.handover n b kind id) = true := by simp [Ev.calm]
@[simp] theorem calm_recipes (b : Pos) (g : Grade) : Ev.calm (Ev.recipes b g) = true := by simp [Ev.calm]
@[simp] theorem calm_startReport (id : Nat) : Ev.calm (Ev.startReport id) = true := by simp [Ev.calm]
@[simp] theorem calm_positionReport (id : Nat) (isEnd : Bool) : Ev.calm (Ev.positionReport id isEnd) = true := by simp [Ev.calm]
@[simp] theorem calm_sheetReport (id m : Nat) (cls : SheetClass) (long : Bool) : Ev.calm (Ev.sheetReport id m cls long) = true := by simp [Ev.calm]
@[simp] theorem calm_sheet (r : Sheet) : Ev.calm (Ev.sheet r) = true := by simp [Ev.calm]
@[simp] theorem calm_goodReport (id : Nat) : Ev.calm (Ev.goodReport id) = true := by simp [Ev.calm]
@[simp] theorem calm_overflowReport (id : Nat) : Ev.calm (Ev.overflowReport id) = true := by simp [Ev.calm]
@[simp] theorem calm_stackReport (id : Nat) : Ev.calm (Ev.stackReport id) = true := by simp [Ev.calm]
@[simp] theorem calm_endReport (id : Nat) : Ev.calm (Ev.endReport id) = true := by simp [Ev.calm]
@[simp] theorem calm_runOut : Ev.calm Ev.runOut = true := by simp [Ev.calm]
@[simp] theorem calm_accepted : Ev.calm Ev.accepted = true := by simp [Ev.calm]
@[simp] theorem calm_modeEntry (before after : Mode) : Ev.calm (Ev.modeEntry before after) = true := by simp [Ev.calm]
@[simp] theorem calm_halt (n : Stand) (cause : HaltCause) : Ev.calm (Ev.halt n cause) = false := by simp [Ev.calm]
@[simp] theorem calm_webLoss (n : Stand) : Ev.calm (Ev.webLoss n) = true := by simp [Ev.calm]
@[simp] theorem calm_cleared (n : Stand) : Ev.calm (Ev.cleared n) = true := by simp [Ev.calm]
@[simp] theorem calm_expiry (n : Stand) : Ev.calm (Ev.expiry n) = true := by simp [Ev.calm]
@[simp] theorem calm_rollReady (n : Stand) : Ev.calm (Ev.rollReady n) = true := by simp [Ev.calm]
@[simp] theorem calm_minRun (n : Stand) : Ev.calm (Ev.minRun n) = true := by simp [Ev.calm]
@[simp] theorem calm_owedWork (n : Stand) (withWait : Bool) : Ev.calm (Ev.owedWork n withWait) = true := by simp [Ev.calm]
@[simp] theorem calm_publish : Ev.calm Ev.publish = false := by simp [Ev.calm]
@[simp] theorem calm_govStep : Ev.calm Ev.govStep = false := by simp [Ev.calm]
@[simp] theorem calm_glueTargets : Ev.calm Ev.glueTargets = true := by simp [Ev.calm]
@[simp] theorem calm_governorAccepted : Ev.calm Ev.governorAccepted = true := by simp [Ev.calm]
@[simp] theorem calm_request (f : Frame) : Ev.calm (Ev.request f) = false := by simp [Ev.calm]

/-! ### The hub -/

@[simp] theorem hub_with_choice (s : State) (x : Nat) : ({ s with choice := x } : State).hub = s.hub := rfl
@[simp] theorem hub_with_regs (s : State) (x : Regs) : ({ s with regs := x } : State).hub = s.hub := rfl
@[simp] theorem hub_with_map (s : State) (x : RejectMap) : ({ s with map := x } : State).hub = s.hub := rfl
@[simp] theorem hub_with_cutoff (s : State) (x : Cutoff) : ({ s with cutoff := x } : State).hub = s.hub := rfl
@[simp] theorem hub_with_slitter (s : State) (x : Slitter) : ({ s with slitter := x } : State).hub = s.hub := rfl
@[simp] theorem hub_with_stacker (s : State) (x : Stacker) : ({ s with stacker := x } : State).hub = s.hub := rfl
@[simp] theorem hub_with_stands (s : State) (x : Vector StandRec 7) : ({ s with stands := x } : State).hub = s.hub := rfl
@[simp] theorem hub_with_splice (s : State) (x : Vector SpliceRec 7) : ({ s with splice := x } : State).hub = s.hub := rfl
@[simp] theorem hub_with_glue (s : State) (x : Glue) : ({ s with glue := x } : State).hub = s.hub := rfl

/-- A calm event posted leaves the hub. -/
@[simp] theorem hub_post (s : State) (e : Ev) (h : e.calm = true) : (s.post e).hub = s.hub := by
  simp [State.hub, State.post, h]

@[simp] theorem hub_postFirst (s : State) (e : Ev) (h : e.calm = true) : (s.postFirst e).hub = s.hub := by
  simp [State.hub, State.postFirst, h]

@[simp] theorem hub_postAll (s : State) (es : List Ev) (h : ∀ e ∈ es, e.calm = true) : (s.postAll es).hub = s.hub := by
  have : es.filter (fun e => !e.calm) = [] := by
    rw [List.filter_eq_nil_iff]
    intro e he
    simp [h e he]
  simp [State.hub, State.postAll, this]

@[simp] theorem hub_each {α : Type} (l : List α) (f : α → State → State) (s : State)
    (h : ∀ x t, (f x t).hub = t.hub) : (s.each l f).hub = s.hub := by
  unfold State.each
  induction l generalizing s with
  | nil => rfl
  | cons x l ih => rw [List.foldl_cons, ih, h]


@[simp] theorem hub_setStand (s : State) (n : Stand) (r : StandRec) : (State.setStand s n r).hub = s.hub := by
  simp [State.setStand]

@[simp] theorem hub_setSpl (s : State) (n : Stand) (r : SpliceRec) : (State.setSpl s n r).hub = s.hub := by
  simp [State.setSpl]

@[simp] theorem hub_setUnit (s : State) (u : GlueUnit) (r : GlueRec) : (State.setUnit s u r).hub = s.hub := by
  simp [State.setUnit]

theorem occur_levels (u : Notices) (i : NoticeSource) (d : EventData) :
    (u.occur i d).levels = u.levels ∧ (u.occur i d).threshold = u.threshold := by
  unfold Notices.occur
  (repeat' split) <;> exact ⟨rfl, rfl⟩

theorem markChanged_levels (u : Notices) (i : NoticeSource) :
    (u.markChanged i).levels = u.levels ∧ (u.markChanged i).threshold = u.threshold := by
  unfold Notices.markChanged
  split <;> exact ⟨rfl, rfl⟩

@[simp] theorem hub_raise (s : State) (i : NoticeSource) (d : EventData) : (s.raise i d).hub = s.hub := by
  simp [State.hub, occur_levels]


@[simp] theorem hub_mark (s : State) (i : NoticeSource) : (s.mark i).hub = s.hub := by
  simp [State.hub, markChanged_levels]


/-- A withdrawal takes no event from those that are not calm. -/
@[simp] theorem wild_withdrawn (p : Purpose) (l : List Ev) :
    (l.filter fun e => !e.calm && e.notFor p) = l.filter (fun e => !e.calm) := by
  apply List.filter_congr
  intro e _
  cases e <;> simp [Ev.notFor]

@[simp] theorem hub_withdraw (s : State) (p : Purpose) : (s.withdraw p).hub = s.hub := by
  simp [State.hub]


@[simp] theorem hub_markIf (s : State) (changed : Bool) (i : NoticeSource) : (State.markIf s changed i).hub = s.hub := by
  simp only [State.markIf]
  split <;> simp

@[simp] theorem hub_register (s : State) (p : Purpose) (at_ : Pos) : (s.register p at_).hub = s.hub := by
  unfold State.register
  split
  · rw [hub_post _ _ (by simp), hub_withdraw]
  · exact (hub_with_regs (s.withdraw p) _).trans (hub_withdraw s p)


@[simp] theorem hub_reportMapChange (s : State) : s.reportMapChange.hub = s.hub := by
  obtain ⟨l, r, c, h, e, -⟩ := s.reportMapChange_eq
  rw [e]
  simp [State.hub, h]


@[simp] theorem hub_setSpans (s : State) (l : List Span) (age : Nat) : (State.setSpans s l age).hub = s.hub := by
  simp only [State.setSpans]
  split <;> simp

@[simp] theorem hub_raiseMap (s : State) (after : Span) (kind : SpanKind) (src : Source) : (State.raiseMap s after kind src).hub = s.hub := by
  simp [State.raiseMap]

@[simp] theorem hub_addSpanTell (s : State) (kind : SpanKind) (src : Source) (start stop : Pos) :
    (s.addSpanTell kind src start stop).1.hub = s.hub := by
  simp only [State.addSpanTell]
  repeat' split
  all_goals simp

@[simp] theorem hub_addSpan (s : State) (kind : SpanKind) (src : Source) (start stop : Pos) :
    (s.addSpan kind src start stop).hub = s.hub := by simp [State.addSpan]


@[simp] theorem hub_openSpan (s : State) (kind : SpanKind) (src : Source) (start : Pos) : (State.openSpan s kind src start).hub = s.hub := by
  simp only [State.openSpan]
  (repeat' split) <;> simp

@[simp] theorem hub_closeSpan (s : State) (src : Source) (at_ : Pos) : (State.closeSpan s src at_).hub = s.hub := by
  simp only [State.closeSpan]
  (repeat' split) <;> simp

@[simp] theorem hub_prune (s : State) (c : Pos) : (State.prune s c).hub = s.hub := by
  simp [State.prune]

@[simp] theorem hub_updateOrder (s : State) (id : Nat) (f : Order → Order) : (State.updateOrder s id f).hub = s.hub := by
  rfl

@[simp] theorem calm_handovers (b : Pos) (id : Nat) (before : Stand → Option Nat) (after : Grade) :
    ∀ e ∈ handovers b id before after, e.calm = true := by
  intro e he
  simp only [handovers, List.mem_filterMap] at he
  obtain ⟨n, -, h⟩ := he
  revert h
  repeat' split
  all_goals simp_all
  rintro rfl
  rfl

@[simp] theorem hub_boundaryActions (s : State) (o next : Order) : (s.boundaryActions o next).hub = s.hub := by
  unfold State.boundaryActions
  split
  · rw [hub_post _ _ rfl, hub_postAll _ _ (calm_handovers _ _ _ _)]
  · rfl


@[simp] theorem hub_freezeOrder (s : State) (o : Order) : (State.freezeOrder s o).hub = s.hub := by
  simp only [State.freezeOrder]
  split <;> simp

@[simp] theorem hub_followFreeze (fuel : Nat) (s : State) : (State.followFreeze fuel s).hub = s.hub := by
  induction fuel generalizing s with
  | zero => rfl
  | succ k ih =>
    simp only [State.followFreeze]
    repeat' split
    all_goals first | rfl | simp [ih]


@[simp] theorem hub_updateFreeze (s : State) : (State.updateFreeze s).hub = s.hub := by
  simp [State.updateFreeze]

@[simp] theorem hub_placementPass (s : State) : s.placementPass.hub = s.hub := by
  simp only [State.placementPass]
  split
  · simp only [hub_updateFreeze]
    rfl
  · split
    · simp only [hub_updateFreeze]
      rfl
    · rw [hub_updateFreeze, hub_post _ _ (by simp)]
      rfl


@[simp] theorem hub_takeStartReport (s : State) (id : Nat) : (State.takeStartReport s id).hub = s.hub := by
  simp only [State.takeStartReport]
  (repeat' split) <;> simp

@[simp] theorem hub_takePositionReport (s : State) (id : Nat) (isEnd : Bool) : (State.takePositionReport s id isEnd).hub = s.hub := by
  simp only [State.takePositionReport]
  (repeat' split) <;> simp

@[simp] theorem hub_takeSheetReport (s : State) (id : Nat) (m : Nat) (cls : SheetClass) (long : Bool) : (State.takeSheetReport s id m cls long).hub = s.hub := by
  simp [State.takeSheetReport]

@[simp] theorem hub_takeGoodReport (s : State) (id : Nat) : (State.takeGoodReport s id).hub = s.hub := by
  simp [State.takeGoodReport]

@[simp] theorem hub_takeOverflowReport (s : State) (id : Nat) : (State.takeOverflowReport s id).hub = s.hub := by
  simp [State.takeOverflowReport]

@[simp] theorem hub_takeStackReport (s : State) (id : Nat) : (State.takeStackReport s id).hub = s.hub := by
  simp only [State.takeStackReport]
  (repeat' split) <;> simp

theorem complete_grades (b : OrderBook) (o : Order) : (b.complete o).grades = b.grades := by
  simp only [OrderBook.complete, OrderBook.setNaming]
  split <;> rfl

@[simp] theorem hub_takeEndReport (s : State) (id : Nat) : (s.takeEndReport id).hub = s.hub := by
  unfold State.takeEndReport
  cases h : s.order? id with
  | none => rfl
  | some o =>
    by_cases ht : o.state = .tailing
    · simp only [ht, if_true]
      split
      · rw [hub_post _ _ (by simp), hub_post _ _ (by simp), hub_raise]
        simp [State.hub, complete_grades]
      · rw [hub_post _ _ (by simp), hub_raise]
        simp [State.hub, complete_grades]
    · simp [ht]


@[simp] theorem hub_headActions (s : State) (o : Order) (last : Option Order) : (s.headActions o last).hub = s.hub := by
  unfold State.headActions
  split
  · simp
  · rw [hub_post _ _ rfl, hub_post _ _ rfl, hub_postAll _ _ (calm_handovers _ _ _ _)]
    simp


@[simp] theorem hub_setCut (s : State) (g : Segment) (p : Pos) : (State.setCut s g p).hub = s.hub := by
  simp [State.setCut]

@[simp] theorem hub_rateNow (s : State) : s.rateNow.hub = s.hub := rfl

@[simp] theorem hub_loadGrid (s : State) (o : Order) : (State.loadGrid s o).hub = s.hub := by
  simp [State.loadGrid]

@[simp] theorem hub_wasteFrom (s : State) (c : Pos) : (State.wasteFrom s c).hub = s.hub := by
  simp [State.wasteFrom]

@[simp] theorem hub_enterWaste (s : State) (c : Pos) : (State.enterWaste s c).hub = s.hub := by
  simp [State.enterWaste]

@[simp] theorem hub_takeHeadStart (s : State) : (State.takeHeadStart s).hub = s.hub := by
  simp only [State.takeHeadStart]
  split <;> simp

@[simp] theorem calm_sheetReports (cls : SheetClass) (long : Bool) (l : List Cover) :
    ∀ e ∈ sheetReports cls long l, e.calm = true := by simp [sheetReports]

theorem hub_reportAhead (s : State) (p : Purpose) (f : State → State) (h : ∀ t, (f t).hub = t.hub) :
    (s.reportAhead p f).hub = s.hub := by
  have hf := h { s with inbox := [] }
  have hw : (f { s with inbox := [] }).inbox.filter (fun e => !e.calm) = [] := congrArg Hub.wild hf
  have e : (s.reportAhead p f).hub = { (f { s with inbox := [] }).hub with wild := (s.withdraw p).hub.wild } := by
    simp [State.reportAhead, State.hub, hw]
  rw [e, hf, hub_withdraw]
  rfl

@[simp] theorem hub_fireCut (s : State) (c : Pos) : (s.fireCut c).hub = s.hub := by
  unfold State.fireCut
  rw [hub_post _ _ rfl, hub_postAll _ _ (calm_sheetReports _ _ _)]
  rfl


@[simp] theorem hub_skipCut (s : State) (c : Pos) (cause : SkipCause) : (State.skipCut s c cause).hub = s.hub := by
  simp [State.skipCut]

@[simp] theorem hub_passStart (s : State) (o : Order) : (State.passStart s o).hub = s.hub := by
  simp [State.passStart]

@[simp] theorem hub_passCut (s : State) (c : Pos) : (State.passCut s c).hub = s.hub := by
  simp only [State.passCut]
  (repeat' split) <;> simp

@[simp] theorem hub_takeCut (s : State) (c : Pos) : (State.takeCut s c).hub = s.hub := by
  simp only [State.takeCut]
  split
  · exact hub_reportAhead _ _ _ (fun t => by simp)
  · rw [hub_prune]
    exact hub_reportAhead _ _ _ (fun t => by simp)

@[simp] theorem hub_knifeModeEntry (s : State) (before : Mode) (after : Mode) : (State.knifeModeEntry s before after).hub = s.hub := by
  simp only [State.knifeModeEntry]
  split <;> simp

@[simp] theorem hub_spendChoice (s : State) (k : Nat) : (State.spendChoice s k).hub = s.hub := by
  simp [State.spendChoice]

@[simp] theorem hub_updStation (s : State) (st : Station) (f : StationRec → StationRec) : (State.updStation s st f).hub = s.hub := by
  simp [State.updStation]

@[simp] theorem hub_idleStation (s : State) (st : Station) : (s.idleStation st).hub = s.hub := by
  simp [State.idleStation]

@[simp] theorem hub_load (s : State) (st : Station) (r : SetRec) : (State.load s st r).hub = s.hub := by
  simp only [State.load]
  split <;> simp

@[simp] theorem hub_takeId (s : State) (st : Station) (id : Nat) : (State.takeId s st id).hub = s.hub := by
  simp [State.takeId]

@[simp] theorem hub_updateNext (s : State) : (State.updateNext s).hub = s.hub := by
  simp only [State.updateNext]
  (repeat' split) <;> simp

@[simp] theorem hub_restStandby (s : State) (st : Station) : (State.restStandby s st).hub = s.hub := by
  simp only [State.restStandby]
  split <;> simp

@[simp] theorem hub_setStandby (s : State) : (State.setStandby s).hub = s.hub := by
  simp only [State.setStandby]
  (repeat' split) <;> simp

@[simp] theorem hub_refreshNext (s : State) : (State.refreshNext s).hub = s.hub := by
  simp [State.refreshNext]

@[simp] theorem hub_engageFor (s : State) (st : Station) : (State.engageFor s st).hub = s.hub := by
  simp [State.engageFor]

@[simp] theorem hub_chooseIncoming (s : State) (outgoing : Option Station) (r : SetRec) : (State.chooseIncoming s outgoing r).hub = s.hub := by
  simp only [State.chooseIncoming]
  (repeat' split) <;> simp

@[simp] theorem hub_disengage (s : State) : (State.disengage s).hub = s.hub := by
  simp only [State.disengage]
  split <;> simp

@[simp] theorem hub_lateSwap (s : State) (start : Pos) (r : SetRec) (ready : Option Station) : (State.lateSwap s start r ready).hub = s.hub := by
  simp only [State.lateSwap]
  split <;> simp

@[simp] theorem hub_readySwap (s : State) (st : Station) : (State.readySwap s st).hub = s.hub := by
  simp [State.readySwap]

@[simp] theorem hub_triggerAwaited (s : State) (w : SetRec) (r : SetRec) : (State.triggerAwaited s w r).hub = s.hub := by
  simp only [State.triggerAwaited]
  (repeat' split) <;> simp

@[simp] theorem hub_triggerEstopped (s : State) (start : Pos) (r : SetRec) : (State.triggerEstopped s start r).hub = s.hub := by
  simp only [State.triggerEstopped]
  (repeat' split) <;> simp

@[simp] theorem hub_trigger (s : State) (start : Pos) (r : SetRec) : (State.trigger s start r).hub = s.hub := by
  simp only [State.trigger]
  (repeat' split) <;> simp

@[simp] theorem hub_slitMarked (s : State) (t : State) : (State.slitMarked s t).hub = t.hub := by
  simp [State.slitMarked]

@[simp] theorem hub_takeSlitWindow (s : State) : (State.takeSlitWindow s).hub = s.hub := by
  simp only [State.takeSlitWindow]
  split <;> simp

@[simp] theorem hub_takeSlitTrigger (s : State) : (State.takeSlitTrigger s).hub = s.hub := by
  simp only [State.takeSlitTrigger]
  split <;> simp

@[simp] theorem hub_slitOrderChange (s : State) : (State.slitOrderChange s).hub = s.hub := by
  simp [State.slitOrderChange]

@[simp] theorem hub_takeSetDone (s : State) (st : Station) : (State.takeSetDone s st).hub = s.hub := by
  simp only [State.takeSetDone]
  (repeat' split) <;> simp

@[simp] theorem hub_takeSetExpiry (s : State) (st : Station) : (State.takeSetExpiry s st).hub = s.hub := by
  simp only [State.takeSetExpiry]
  (repeat' split) <;> simp

@[simp] theorem hub_stopSetting (s : State) (st : Station) : (State.stopSetting s st).hub = s.hub := by
  simp only [State.stopSetting]
  split <;> simp

@[simp] theorem hub_takeDeferred (s : State) : (State.takeDeferred s).hub = s.hub := by
  simp only [State.takeDeferred]
  (repeat' split) <;> simp

@[simp] theorem hub_loadAwaited (s : State) : (State.loadAwaited s).hub = s.hub := by
  simp only [State.loadAwaited]
  (repeat' split) <;> simp

@[simp] theorem hub_slitModeEntry (s : State) (before : Mode) (after : Mode) : (State.slitModeEntry s before after).hub = s.hub := by
  simp only [State.slitModeEntry]
  (repeat' split) <;> simp

@[simp] theorem hub_followGate (s : State) : (State.followGate s).hub = s.hub := by
  simp only [State.followGate]
  split <;> simp

@[simp] theorem hub_followStack (s : State) : (State.followStack s).hub = s.hub := by
  simp only [State.followStack]
  split <;> simp

@[simp] theorem hub_takeSheet (s : State) (r : Sheet) : (State.takeSheet s r).hub = s.hub := by
  simp only [State.takeSheet]
  split <;> simp

@[simp] theorem hub_endTest (s : State) (id : Nat) : (State.endTest s id).hub = s.hub := by
  simp only [State.endTest]
  (repeat' split) <;> simp

@[simp] theorem hub_startTransfer (s : State) : (State.startTransfer s).hub = s.hub := by
  simp only [State.startTransfer]
  split <;> simp

@[simp] theorem hub_tryClose (s : State) : (State.tryClose s).hub = s.hub := by
  simp only [State.tryClose]
  (repeat' split) <;> simp

@[simp] theorem hub_stackMarked (s : State) (t : State) : (State.stackMarked s t).hub = t.hub := by
  simp [State.stackMarked]

@[simp] theorem hub_takeFinal (s : State) (id : Nat) : (State.takeFinal s id).hub = s.hub := by
  simp [State.takeFinal]

@[simp] theorem hub_takeFinals (s : State) (l : List Cover) : (State.takeFinals s l).hub = s.hub := by
  simp [State.takeFinals]

@[simp] theorem hub_divertSheet (s : State) : (State.divertSheet s).hub = s.hub := by
  simp [State.divertSheet]

@[simp] theorem hub_gateDecide (s : State) (r : Sheet) : (State.gateDecide s r).hub = s.hub := by
  simp only [State.gateDecide]
  (repeat' split) <;> simp

@[simp] theorem hub_takeGate (s : State) : (State.takeGate s).hub = s.hub := by
  simp only [State.takeGate]
  split <;> simp

@[simp] theorem hub_takeLanding (s : State) : (State.takeLanding s).hub = s.hub := by
  simp only [State.takeLanding]
  (repeat' split) <;> simp

@[simp] theorem hub_takeTransferDone (s : State) : (State.takeTransferDone s).hub = s.hub := by
  simp only [State.takeTransferDone]
  (repeat' split) <;> simp

@[simp] theorem hub_takeStackTaken (s : State) : (State.takeStackTaken s).hub = s.hub := by
  simp only [State.takeStackTaken]
  (repeat' split) <;> simp

@[simp] theorem hub_stackModeEntry (s : State) (before : Mode) (after : Mode) : (State.stackModeEntry s before after).hub = s.hub := by
  simp only [State.stackModeEntry]
  (repeat' split) <;> simp

@[simp] theorem hub_updStand (s : State) (n : Stand) (f : StandRec → StandRec) : (State.updStand s n f).hub = s.hub := by
  simp [State.updStand]

@[simp] theorem hub_standsMarked (s : State) (t : State) : (State.standsMarked s t).hub = t.hub := by
  simp [State.standsMarked]

@[simp] theorem hub_raiseExpiry (s : State) (n : Stand) : (State.raiseExpiry s n).hub = s.hub := by
  simp only [State.raiseExpiry]
  split <;> simp

@[simp] theorem hub_testExpiry (s : State) (n : Stand) : (State.testExpiry s n).hub = s.hub := by
  simp only [State.testExpiry]
  (repeat' split) <;> simp

@[simp] theorem hub_freshExpiry (s : State) (n : Stand) : (State.freshExpiry s n).hub = s.hub := by
  simp [State.freshExpiry]

@[simp] theorem hub_drawStand (n : Stand) (s : State) : (State.drawStand n s).hub = s.hub := by
  simp only [State.drawStand]
  (repeat' split) <;> simp

@[simp] theorem hub_rollChange (s : State) (n : Stand) (m : Arm) : (State.rollChange s n m).hub = s.hub := by
  simp [State.rollChange]

@[simp] theorem hub_tapeSpent (s : State) (n : Stand) (m : Arm) : (State.tapeSpent s n m).hub = s.hub := by
  simp [State.tapeSpent]

@[simp] theorem hub_standFault (s : State) (n : Stand) (c : FaultCause) : (State.standFault s n c).hub = s.hub := by
  simp [State.standFault]

@[simp] theorem hub_standsModeEntry (s : State) : (State.standsModeEntry s).hub = s.hub := by
  simp only [State.standsModeEntry]
  split <;> simp

@[simp] theorem hub_standsAccepted (s : State) : (State.standsAccepted s).hub = s.hub := by
  simp [State.standsAccepted]

@[simp] theorem hub_makeReady (s : State) (n : Stand) (m : Arm) : (State.makeReady s n m).hub = s.hub := by
  simp only [State.makeReady]
  (repeat' split) <;> simp

@[simp] theorem hub_takePrepared (s : State) (n : Stand) : (State.takePrepared s n).hub = s.hub := by
  simp only [State.takePrepared]
  split <;> simp

@[simp] theorem hub_clearStand (s : State) (n : Stand) (m : Option Arm) : (State.clearStand s n m).hub = s.hub := by
  simp only [State.clearStand]
  split <;> simp

@[simp] theorem hub_updSpl (s : State) (n : Stand) (f : SpliceRec → SpliceRec) : (State.updSpl s n f).hub = s.hub := by
  simp [State.updSpl]

@[simp] theorem hub_updSeq (s : State) (n : Stand) (f : Seq → Seq) : (State.updSeq s n f).hub = s.hub := by
  simp [State.updSeq]

@[simp] theorem hub_openMismatchTell (s : State) (n : Stand) (p : Pos) : (s.openMismatchTell n p).1.hub = s.hub := by
  simp only [State.openMismatchTell]
  split <;> simp

@[simp] theorem hub_openMismatch (s : State) (n : Stand) (p : Pos) : (State.openMismatch s n p).hub = s.hub := by
  simp [State.openMismatch]

@[simp] theorem hub_closeMismatch (s : State) (n : Stand) (p : Pos) : (State.closeMismatch s n p).hub = s.hub := by
  simp only [State.closeMismatch]
  split <;> simp

@[simp] theorem hub_endSeq (s : State) (n : Stand) (q : Seq) (o : SpliceOutcome) (laid : Option (Pos × Pos)) (withWait : Bool) : (State.endSeq s n q o laid withWait).hub = s.hub := by
  simp [State.endSeq]

@[simp] theorem hub_keepOwed (s : State) (n : Stand) (q : Seq) : (s.keepOwed n q).1.hub = s.hub := by
  simp only [State.keepOwed]
  split <;> simp

@[simp] theorem hub_endOwed (s : State) (n : Stand) (q : Seq) (o : SpliceOutcome) (withWait : Bool) :
    (s.endOwed n q o withWait).hub = s.hub := by simp [State.endOwed]

@[simp] theorem hub_keepPlan (s : State) (n : Stand) (q : Seq) : (State.keepPlan s n q).hub = s.hub := by
  simp only [State.keepPlan]
  split <;> simp

@[simp] theorem hub_endNoRoll (s : State) (n : Stand) (q : Seq) : (State.endNoRoll s n q).hub = s.hub := by
  simp [State.endNoRoll]

@[simp] theorem hub_startPaste (s : State) (n : Stand) (q : Seq) : (State.startPaste s n q).hub = s.hub := by
  simp [State.startPaste]

@[simp] theorem hub_pasteTest (s : State) (n : Stand) : (State.pasteTest s n).hub = s.hub := by
  simp only [State.pasteTest]
  (repeat' split) <;> simp

@[simp] theorem hub_triggerSeq (s : State) (n : Stand) : (State.triggerSeq s n).hub = s.hub := by
  simp only [State.triggerSeq]
  (repeat' split) <;> simp

@[simp] theorem hub_takeApproach (s : State) (n : Stand) : (State.takeApproach s n).hub = s.hub := by
  simp [State.takeApproach]

@[simp] theorem hub_takeSpliceTrigger (s : State) (n : Stand) : (State.takeSpliceTrigger s n).hub = s.hub := by
  simp only [State.takeSpliceTrigger]
  (repeat' split) <;> simp

@[simp] theorem hub_takeMinRun (s : State) (n : Stand) : (State.takeMinRun s n).hub = s.hub := by
  simp only [State.takeMinRun]
  (repeat' split) <;> simp

@[simp] theorem hub_takePasted (s : State) (n : Stand) : (State.takePasted s n).hub = s.hub := by
  simp only [State.takePasted]
  (repeat' split) <;> simp

@[simp] theorem hub_takeCutInput (s : State) (n : Stand) : (State.takeCutInput s n).hub = s.hub := by
  simp only [State.takeCutInput]
  (repeat' split) <;> simp

@[simp] theorem hub_layJoint (s : State) (n : Stand) (q : Seq) (joint : Pos) : (s.layJoint n q joint).1.hub = s.hub := by
  simp only [State.layJoint]
  repeat' split
  all_goals simp

@[simp] theorem hub_takeTransferExpiry (s : State) (n : Stand) : (s.takeTransferExpiry n).hub = s.hub := by
  simp only [State.takeTransferExpiry]
  (repeat' split) <;> simp


@[simp] theorem hub_takePasteFail (s : State) (n : Stand) : (State.takePasteFail s n).hub = s.hub := by
  simp only [State.takePasteFail]
  (repeat' split) <;> simp

@[simp] theorem hub_takeWebLoss (s : State) (n : Stand) : (State.takeWebLoss s n).hub = s.hub := by
  simp only [State.takeWebLoss]
  (repeat' split) <;> simp

@[simp] theorem hub_settleMismatch (s : State) (n : Stand) (b : Pos) : (State.settleMismatch s n b).hub = s.hub := by
  simp [State.settleMismatch]

@[simp] theorem hub_armPlan (s : State) (n : Stand) (p : Plan) : (s.armPlan n p).hub = s.hub := by
  simp only [State.armPlan]
  (repeat' split) <;> simp

@[simp] theorem hub_giveUpWait (s : State) (n : Stand) (p : Plan) : (s.giveUpWait n p).1.hub = s.hub := by
  simp only [State.giveUpWait]
  (repeat' split) <;> simp


@[simp] theorem hub_armNow (s : State) (n : Stand) (kind : SpliceKind) (plan : Option Plan) (needs : Nat × Option Nat) : (State.armNow s n kind plan needs).hub = s.hub := by
  simp [State.armNow]

@[simp] theorem hub_takeHandover (s : State) (n : Stand) (b : Pos) (kind : Nat) (id : Nat) : (State.takeHandover s n b kind id).hub = s.hub := by
  simp only [State.takeHandover]
  split <;> simp

@[simp] theorem hub_testWait (s : State) (n : Stand) : (State.testWait s n).hub = s.hub := by
  simp only [State.testWait]
  (repeat' split) <;> simp

@[simp] theorem hub_settleWait (s : State) (n : Stand) : (State.settleWait s n).hub = s.hub := by
  simp only [State.settleWait]
  (repeat' split) <;> simp

@[simp] theorem hub_takeRollReady (s : State) (n : Stand) : (State.takeRollReady s n).hub = s.hub := by
  simp only [State.takeRollReady]
  split <;> simp

@[simp] theorem hub_takeOwedWork (s : State) (n : Stand) (withWait : Bool) : (State.takeOwedWork s n withWait).hub = s.hub := by
  simp only [State.takeOwedWork]
  (repeat' split) <;> simp

@[simp] theorem hub_takeExpiry (s : State) (n : Stand) : (State.takeExpiry s n).hub = s.hub := by
  simp only [State.takeExpiry]
  (repeat' split) <;> simp

@[simp] theorem hub_takeCleared (s : State) (n : Stand) : (State.takeCleared s n).hub = s.hub := by
  simp only [State.takeCleared]
  (repeat' split) <;> simp

@[simp] theorem hub_returnArmed (s : State) (n : Stand) (q : Seq) : (State.returnArmed s n q).hub = s.hub := by
  simp only [State.returnArmed]
  split <;> simp

@[simp] theorem hub_stopSplice (s : State) (n : Stand) : (State.stopSplice s n).hub = s.hub := by
  simp only [State.stopSplice]
  (repeat' split) <;> simp

@[simp] theorem hub_spliceModeEntry (s : State) (before : Mode) (after : Mode) : (State.spliceModeEntry s before after).hub = s.hub := by
  simp only [State.spliceModeEntry]
  (repeat' split) <;> simp

@[simp] theorem hub_pasteTests (s : State) : (State.pasteTests s).hub = s.hub := by
  simp [State.pasteTests]

@[simp] theorem hub_setSlow (s : State) (b : Bool) : (s.setSlow b).hub = s.hub := by
  unfold State.setSlow
  split
  · rfl
  · rw [hub_mark]
    rfl


@[simp] theorem hub_zoneSpan (s : State) (z : Zone) (was : Bool) (now : Bool) : (State.zoneSpan s z was now).hub = s.hub := by
  simp only [State.zoneSpan]
  (repeat' split) <;> simp

/-- Replacing a zone leaves the hub when its enabled field stays. -/
@[simp] theorem hub_setZone (s : State) (z : Zone) (r : ZoneRec) (h : r.enabled = (s.zone z).enabled) :
    (s.setZone z r).hub = s.hub := by
  have : (tset s.heat.zones z r).toList.map (fun r => r.enabled) = s.heat.zones.toList.map (fun r => r.enabled) := by
    apply List.ext_getElem
    · simp
    · intro i h1 h2
      simp only [List.getElem_map, Vector.getElem_toList, tset, Vector.getElem_set]
      split
      · next e => subst e; simpa [State.zone, tget] using h
      · rfl
  simp [State.hub, this]

/-- A zone that finds its state keeps its enabled field. -/
@[simp] theorem enter_enabled (r : ZoneRec) (a b : Nat) (new : ZoneState) : (r.enter a b new).enabled = r.enabled := by
  simp only [ZoneRec.enter]
  split <;> rfl

@[simp] theorem hub_findZone (z : Zone) (s : State) : (State.findZone z s).hub = s.hub := by
  simp only [State.findZone]
  have h := hub_setZone s z ((s.zone z).enter s.zonesCfg.probeHold s.zonesCfg.heatGrace (s.findZoneState z)) (by simp)
  (repeat' split) <;> simp [h]


@[simp] theorem hub_takeBelowExpiry (s : State) (z : Zone) : (State.takeBelowExpiry s z).hub = s.hub := by
  simp only [State.takeBelowExpiry]
  split <;> simp

@[simp] theorem hub_takeHoldExpiry (s : State) (z : Zone) : (State.takeHoldExpiry s z).hub = s.hub := by
  simp only [State.takeHoldExpiry]
  split <;> simp

@[simp] theorem feedOnly_enabled (r : ZoneRec) (ref : Nat) : (r.feedOnly ref).enabled = r.enabled := by
  unfold ZoneRec.feedOnly
  split <;> rfl

@[simp] theorem regulate_enabled (r : ZoneRec) (g : Gains) (a : ZoneRecipe) (pv : Int) (ref : Nat) :
    (r.regulate g a pv ref).enabled = r.enabled := rfl

@[simp] theorem hub_zonePeriod (z : Zone) (s : State) : (State.zonePeriod z s).hub = s.hub := by
  simp only [State.zonePeriod]
  (repeat' split) <;> first | simp | rfl | (exact hub_setZone _ _ _ rfl)


@[simp] theorem hub_takeZonePeriod (s : State) : (State.takeZonePeriod s).hub = s.hub := by
  simp [State.takeZonePeriod]

@[simp] theorem hub_followZone (s : State) (z : Zone) : (State.followZone s z).hub = s.hub := by
  simp only [State.followZone]
  split <;> simp

@[simp] theorem hub_takeZoneRecipe (b : Pos) (g : Grade) (z : Zone) (s : State) : (State.takeZoneRecipe b g z s).hub = s.hub := by
  simp only [State.takeZoneRecipe]
  split <;> simp

@[simp] theorem hub_takeZoneCommit (s : State) (z : Zone) : (State.takeZoneCommit s z).hub = s.hub := by
  simp only [State.takeZoneCommit]
  split <;> simp

@[simp] theorem hub_findUnitAt (e : Pos) (u : GlueUnit) (s : State) : (State.findUnitAt e u s).hub = s.hub := by
  simp only [State.findUnitAt]
  (repeat' split) <;> simp

@[simp] theorem hub_findUnit (u : GlueUnit) (s : State) : (State.findUnit u s).hub = s.hub := by
  simp [State.findUnit]

@[simp] theorem hub_updUnit (s : State) (u : GlueUnit) (f : GlueRec → GlueRec) : (State.updUnit s u f).hub = s.hub := by
  simp only [State.updUnit]
  split <;> simp

@[simp] theorem hub_setMotion (s : State) (b : Bool) (e : Pos) : (s.setMotion b e).hub = s.hub := by
  simp only [State.setMotion]
  split <;> simp

@[simp] theorem hub_takeMotion (s : State) : s.takeMotion.hub = s.hub := by simp [State.takeMotion]

@[simp] theorem hub_computeTarget (u : GlueUnit) (s : State) : (State.computeTarget u s).hub = s.hub := by
  simp only [State.computeTarget]
  (repeat' split) <;> simp

@[simp] theorem hub_liftTest (u : GlueUnit) (s : State) : (State.liftTest u s).hub = s.hub := by
  simp only [State.liftTest]
  split <;> simp

@[simp] theorem hub_reapplyTest (u : GlueUnit) (s : State) : (State.reapplyTest u s).hub = s.hub := by
  simp only [State.reapplyTest]
  split <;> simp

@[simp] theorem hub_glueTests (s : State) : (State.glueTests s).hub = s.hub := by
  simp [State.glueTests]

@[simp] theorem hub_gluePublish (s : State) : (State.gluePublish s).hub = s.hub := by
  simp only [State.gluePublish]
  split <;> simp

@[simp] theorem hub_takeArrived (s : State) (u : GlueUnit) : (State.takeArrived s u).hub = s.hub := by
  simp only [State.takeArrived]
  split <;> simp

@[simp] theorem hub_takeMoveExpiry (s : State) (u : GlueUnit) : (State.takeMoveExpiry s u).hub = s.hub := by
  simp only [State.takeMoveExpiry]
  split <;> simp

@[simp] theorem hub_followUnit (s : State) (u : GlueUnit) : (State.followUnit s u).hub = s.hub := by
  simp only [State.followUnit]
  split <;> simp

@[simp] theorem hub_takeGlueRecipe (b : Pos) (g : Grade) (u : GlueUnit) (s : State) : (State.takeGlueRecipe b g u s).hub = s.hub := by
  simp only [State.takeGlueRecipe]
  split <;> simp

@[simp] theorem hub_takeGlueCommit (s : State) (u : GlueUnit) : (State.takeGlueCommit s u).hub = s.hub := by
  simp only [State.takeGlueCommit]
  split <;> simp

@[simp] theorem hub_takeRecipes (s : State) (b : Pos) (g : Grade) : (State.takeRecipes s b g).hub = s.hub := by
  simp [State.takeRecipes]

@[simp] theorem hub_glueModeEntry (s : State) (after : Mode) : (State.glueModeEntry s after).hub = s.hub := by
  simp only [State.glueModeEntry]
  (repeat' split) <;> simp

@[simp] theorem hub_takeRunOut (s : State) : s.takeRunOut.hub = s.hub := by
  unfold State.takeRunOut
  rw [hub_mark]
  rfl


@[simp] theorem hub_takeAccepted (s : State) : (State.takeAccepted s).hub = s.hub := by
  rfl

@[simp] theorem hub_refreshLimits (s : State) : s.refreshLimits.hub = s.hub := by
  simp only [State.refreshLimits, hub_markIf]
  rfl


@[simp] theorem hub_takeCrossing (s : State) (p : Purpose) (at_ : Pos) : (State.takeCrossing s p at_).hub = s.hub := by
  simp only [State.takeCrossing]
  split <;> simp

@[simp] theorem hub_takeModeEntry (s : State) (before after : Mode) : (s.takeModeEntry before after).hub = s.hub := by
  simp only [State.takeModeEntry, hub_glueModeEntry, hub_spliceModeEntry, hub_standsModeEntry, hub_stackModeEntry,
    hub_slitModeEntry, hub_knifeModeEntry]


theorem clear_levels (u : Notices) (i : NoticeSource) :
    (u.clear i).levels = u.levels ∧ (u.clear i).threshold = u.threshold := ⟨rfl, rfl⟩

@[simp] theorem hub_makeNotice (s : State) (i : NoticeSource) : (s.makeNotice i).hub = s.hub := rfl

@[simp] theorem hub_offerNotice (s : State) : s.offerNotice.hub = s.hub := by
  unfold State.offerNotice
  (repeat' split) <;> rfl

/-- Every calm event leaves the hub as it is. -/
theorem hub_handle (s : State) (e : Ev) (h : e.calm = true) : (s.handle e).hub = s.hub := by
  cases e <;> simp_all [State.handle]

end Sys2Proof.Machine
end

