-- ==== Sys2Proof/Laws/Step.lean ====
section
/-! SUPPORT. The end of a step, the making of a reply and the handing over of a request, each said once. -/

namespace Sys2Proof.Machine

/-! ### The end of a step -/

/-- With no event waiting nothing is drained. -/
theorem drain_quiet (k : Nat) (s : State) (h : s.inbox = []) : State.drain k s = s := by
  cases k with
  | zero => rfl
  | succ k => simp [State.drain, h]

/-- With an event waiting, it is taken and the owners set their limits. -/
theorem drain_cons (k : Nat) (s : State) (e : Ev) (l : List Ev) (h : s.inbox = e :: l) :
    State.drain (k + 1) s = State.drain k (({ s with inbox := l }.handle e).refreshLimits) := by
  simp [State.drain, h]

@[simp] theorem markIf_inbox (s : State) (b : Bool) (i : NoticeSource) : (s.markIf b i).inbox = s.inbox := by
  cases b <;> rfl
@[simp] theorem markIf_link (s : State) (b : Bool) (i : NoticeSource) : (s.markIf b i).link = s.link := by
  cases b <;> rfl
@[simp] theorem refreshLimits_inbox (s : State) : s.refreshLimits.inbox = s.inbox := by simp [State.refreshLimits]
@[simp] theorem refreshLimits_link (s : State) : s.refreshLimits.link = s.link := by simp [State.refreshLimits]

/-- A state with no event waiting is itself with its inbox empty. -/
theorem inbox_nil_eta (s : State) (h : s.inbox = []) : ({ s with inbox := [] } : State) = s := by
  cases s
  simp_all

/-- A step that posted no event ends with the limits set and a notice offered. -/
theorem finish_quiet (s : State) (h : s.inbox = []) : s.finish = s.quietEnd := by
  unfold State.finish State.quietEnd
  rw [drain_quiet _ _ (by simpa using h), inbox_nil_eta _ (by simpa using h)]

/-- A busy transmitter is offered no notice. -/
theorem offerNotice_busy (s : State) (h : s.link.tx ≠ .idle) : s.offerNotice = s := by
  unfold State.offerNotice
  split
  · next e => exact absurd e h
  · rfl

/-- A step that posted no event and leaves the transmitter busy ends with the limits set. -/
theorem finish_busy (s : State) (h : s.inbox = []) (hb : s.link.tx ≠ .idle) : s.finish = s.refreshLimits := by
  rw [finish_quiet s h, State.quietEnd, offerNotice_busy]
  simpa using hb

/-! ### Replies -/

/-- After a reply is made the transmitter is busy. -/
theorem sendReply_busy (l : Link) (f : Frame) : (l.sendReply f).tx ≠ .idle := by
  unfold Link.sendReply
  split
  · simp
  · next h => exact h

/-- A reply of a status alone. -/
@[simp] theorem payload_just (st : Status) : (Reply.just st).payload = [BitVec.ofNat 8 st.code, 1] := by
  simp [Reply.payload, Reply.just, cutToFit, segEntries, segBytes, encBool, u8]

/-- A reply of plain fields is never cut. -/
@[simp] theorem payload_plain (st : Status) (bs : List Byte) :
    Reply.payload { status := st, fields := [.raw bs] } = BitVec.ofNat 8 st.code :: 1 :: bs := by
  simp [Reply.payload, cutToFit, segEntries, segBytes, Seg.bytes, encBool, u8]

/-- A reply of OK and plain fields. -/
@[simp] theorem payload_okWith (bs : List Byte) : (Reply.okWith bs).payload = 0 :: 1 :: bs := by
  simp [Reply.okWith, Status.code]

/-- A request handed to its owner: the owner takes it in hand, and its reply is made. -/
theorem serve_eq (kind tag : Byte) (owner : State → State × Reply) (s : State) (h : s.inbox = []) :
    State.serve kind tag owner s = (owner (s.heard kind tag)).1.replied kind tag (owner (s.heard kind tag)).2 := by
  have : ({ s with link := { s.link with inHand := some (s.link.inHand.getD (kind, tag)) } } : State) =
      s.heard kind tag := by
    unfold State.heard
    cases s
    simp_all
  simp [State.serve, this, State.replied]

/-- A reply of a status alone, made to a request of the list. -/
theorem replied_just (s : State) (kind tag : Byte) (st : Status) (h : replyKind kind = kind + 0x80#8) :
    s.replied kind tag (Reply.just st) = s.answered kind tag st [] := by
  simp [State.replied, State.answered, Reply.frame, h]

/-- A reply of OK and plain fields, made to a request of the list. -/
theorem replied_okWith (s : State) (kind tag : Byte) (bs : List Byte) (h : replyKind kind = kind + 0x80#8) :
    s.replied kind tag (Reply.okWith bs) = s.answered kind tag .ok bs := by
  simp [State.replied, State.answered, Reply.frame, h, Status.code]

/-- A reply of a status and plain fields, made to a request of the list. -/
theorem replied_plain (s : State) (kind tag : Byte) (st : Status) (bs : List Byte)
    (h : replyKind kind = kind + 0x80#8) :
    s.replied kind tag { status := st, fields := [.raw bs] } = s.answered kind tag st bs := by
  simp [State.replied, State.answered, Reply.frame, h]

@[simp] theorem replied_inbox (s : State) (kind tag : Byte) (r : Reply) : (s.replied kind tag r).inbox = s.inbox := rfl
@[simp] theorem answered_inbox (s : State) (kind tag : Byte) (st : Status) (bs : List Byte) :
    (s.answered kind tag st bs).inbox = s.inbox := rfl
@[simp] theorem heard_inbox (s : State) (kind tag : Byte) : (s.heard kind tag).inbox = [] := rfl

/-- A request whose owner posts no event: the reply is made and the limits are set. -/
theorem run_serve_quiet (kind tag : Byte) (owner : State → State × Reply) (s : State)
    (h : (owner (s.heard kind tag)).1.inbox = []) :
    s.run (State.serve kind tag owner) =
      .next ((owner (s.heard kind tag)).1.replied kind tag (owner (s.heard kind tag)).2).refreshLimits := by
  unfold State.run State.commit
  rw [serve_eq _ _ _ _ rfl]
  have e : ({ s with inbox := [] } : State).heard kind tag = s.heard kind tag := rfl
  rw [e, finish_busy]
  · simpa using h
  · exact sendReply_busy _ _

/-- A request: its owner acts, the reply is made, and the step ends. -/
theorem run_serve (kind tag : Byte) (owner : State → State × Reply) (s : State) :
    s.run (State.serve kind tag owner) =
      .next ((owner (s.heard kind tag)).1.replied kind tag (owner (s.heard kind tag)).2).finish := by
  unfold State.run State.commit
  rw [serve_eq _ _ _ _ rfl]
  rfl

/-- A field command that posts no event. -/
theorem run_quiet (s : State) (f : State → State) (h : (f { s with inbox := [] }).inbox = []) :
    s.run f = .next (f { s with inbox := [] }).quietEnd := by
  unfold State.run State.commit
  rw [finish_quiet _ h]

/-- A request its owner answers with a status alone, posting no event. -/
theorem run_just {kind tag : Byte} {owner : State → State × Reply} {s t : State} {st : Status}
    (hk : replyKind kind = kind + 0x80#8) (h : owner (s.heard kind tag) = (t, .just st)) (hi : t.inbox = []) :
    s.run (State.serve kind tag owner) = .next (t.answered kind tag st []).refreshLimits := by
  rw [run_serve_quiet _ _ _ _ (by rw [h]; exact hi), h, ← replied_just _ _ _ _ hk]

/-- A request its owner answers with OK and plain fields, posting no event. -/
theorem run_okWith {kind tag : Byte} {owner : State → State × Reply} {s t : State} {bs : List Byte}
    (hk : replyKind kind = kind + 0x80#8) (h : owner (s.heard kind tag) = (t, .okWith bs)) (hi : t.inbox = []) :
    s.run (State.serve kind tag owner) = .next (t.answered kind tag .ok bs).refreshLimits := by
  rw [run_serve_quiet _ _ _ _ (by rw [h]; exact hi), h, ← replied_okWith _ _ _ _ hk]

/-- A request its owner answers with a status alone. -/
theorem run_just_finish {kind tag : Byte} {owner : State → State × Reply} {s t : State} {st : Status}
    (hk : replyKind kind = kind + 0x80#8) (h : owner (s.heard kind tag) = (t, .just st)) :
    s.run (State.serve kind tag owner) = .next (t.answered kind tag st []).finish := by
  rw [run_serve, h, ← replied_just _ _ _ _ hk]

/-- A request its owner answers with OK and plain fields. -/
theorem run_okWith_finish {kind tag : Byte} {owner : State → State × Reply} {s t : State} {bs : List Byte}
    (hk : replyKind kind = kind + 0x80#8) (h : owner (s.heard kind tag) = (t, .okWith bs)) :
    s.run (State.serve kind tag owner) = .next (t.answered kind tag .ok bs).finish := by
  rw [run_serve, h, ← replied_okWith _ _ _ _ hk]

end Sys2Proof.Machine
end

