-- ==== Sys2Proof/Certificates/Slice0/Obligations.lean ====
section
/-! DEFINITION. The statements for the provers. In them `finish` is the end of a step (limits set, events taken, a notice offered)
and `quietEnd` the end of one that posted no event; a request's statement starts from `heard` (the request in hand) and its reply
is made by `answered` or `replied`; `refreshLimits` is the end of a request that posted no event, whose transmitter is busy with the
reply. These four are the model's choices where the spec leaves the moment open: reports are taken inside their step (log 2), a notice
is offered at its end (log 7), a request given as a command is served at once (log 10), and the limits are set after every event
(log 18). An expiry or completion for a timer that does not run has no effect (log 9). `CalmCascadeKeepsHub` and `RequestFreeCascadeKeepsCore` say what the events taken at `finish` leave alone. -/

section

open Sys2Proof Sys2Proof.Machine

/-! ### The step and the queue -/

/-- One step runs the command at the front of the queue on the state with the rest of the queue; with no command waiting the
part idles (the model's choice, log 1). -/
def Obligations.StepTakesFrontCommand : Prop :=
  ∀ s : State,
    (∀ (c : Instr) (rest : List Instr), step { s with pending := c :: rest } = exec c { s with pending := rest }) ∧
      (s.pending = [] → step s = .next s)

/-- No command touches the waiting commands (the model's queue, log 1). -/
def Obligations.ExecKeepsQueue : Prop :=
  ∀ (c : Instr) (s t : State), exec c s = .next t → t.pending = s.pending

/-! ### What the events of a step leave alone -/

/-- A step whose waiting events are all calm leaves the hub as it stood when the command's own effect was done: line mode,
reference, E, the sections, REQUESTED, the grade table, the scanner, the supply header, the levels and the link's requests. -/
def Obligations.CalmCascadeKeepsHub : Prop :=
  ∀ s : State, (∀ e ∈ s.inbox, e.calm = true) → s.finish.hub = s.hub

/-- A step none of whose waiting events is a request leaves E, the backtrack count, the sections, REQUESTED, the ESTOP line, the
grade table, the scanner, the supply header, the enabled zones, the levels and the link's requests. -/
def Obligations.RequestFreeCascadeKeepsCore : Prop :=
  ∀ s : State, (∀ e ∈ s.inbox, e.isRequest = false) → s.finish.hub.core = s.hub.core

/-! ### Power-on, reset and the invariants at reset -/

/-- Power-on sets every block to its reset values with the straps and input levels found, and offers the notice then due (R186,
R188, R198, R206). That of the condition sources LINE_MODE alone is then pending is the model's choice (log 51). -/
def Obligations.PowerOnSetsResetValues : Prop :=
  (∀ (strap1 strap2 estop pressure : Bool) (s : State),
    exec (.powerOn strap1 strap2 estop pressure) s = .next (State.offerNotice
      { State.reset with
        pending := s.pending, choice := s.choice, heat := Heat.resetWith pressure, gov := Governor.resetWith estop,
        link := Link.resetWith (rateOf strap1 strap2),
        notices := if estop then Notices.reset.occur srcEstop (.estop 0 .unconfigured none) else Notices.reset })) ∧
    rateOf false false = .r115200 ∧ rateOf false true = .r460800 ∧ rateOf true false = .r1000000 ∧
    rateOf true true = .r2000000

/-- RESET_PART is refused in RUNNING and STOPPING; in every other mode every block takes its reset, and the link, the input
levels and the slitter heads are kept (R186, R198). That of the condition sources LINE_MODE alone is then pending is the model's choice
(log 51). -/
def Obligations.ResetPartKeepsLinkAndHeads : Prop :=
  ∀ (tag : Byte) (s : State),
    let h := s.heard 0x06 tag
    (s.gov.mode = .running ∨ s.gov.mode = .stopping →
      exec (.resetPart tag) s = .next (h.answered 0x06 tag .wrongMode []).refreshLimits) ∧
    (s.gov.mode ≠ .running → s.gov.mode ≠ .stopping →
      exec (.resetPart tag) s = .next
        (({ State.reset with
            pending := s.pending, choice := s.choice, link := h.link, heat := Heat.resetWith s.heat.pressureOk,
            gov := Governor.resetWith s.gov.estopLine,
            slitter := { Slitter.reset with
              stationA := StationRec.resetWith s.slitter.stationA.slitHeads s.slitter.stationA.scoreHeads,
              stationB := StationRec.resetWith s.slitter.stationB.slitHeads s.slitter.stationB.scoreHeads } } :
          State).answered 0x06 tag .ok [0]))

/-- The state right after power-on: the values the chapters state, and the invariants of a safe run. -/
def Obligations.ResetStateHoldsInvariants : Prop :=
  State.reset.tracker.pos = 0 ∧ State.reset.tracker.backtrack = 0 ∧ State.reset.tracker.measured = 0 ∧
  (∀ p, State.reset.regs.get p = none) ∧ State.reset.map.spans = [] ∧ State.reset.book.orders = [] ∧
  State.reset.book.completed = [] ∧ State.reset.book.lastDoneEnd = none ∧ (∀ c, tget State.reset.book.grades c = none) ∧
  State.reset.cutoff.ready = false ∧ State.reset.cutoff.segment = .none ∧ State.reset.cutoff.lastCut = 0 ∧
  State.reset.slitter.stationA.state = .idle ∧ State.reset.slitter.stationB.state = .idle ∧
  State.reset.slitter.running = none ∧ State.reset.slitter.next = none ∧ State.reset.stacker.train = [] ∧
  State.reset.stacker.divert = true ∧ State.reset.stacker.mode = .building ∧ State.reset.stacker.out = [] ∧
  (∀ n, State.reset.stand n = StandRec.reset ∧ (State.reset.spl n).seq = none ∧ (State.reset.spl n).wait = .none) ∧
  State.reset.scanner.pointer = 0 ∧ (∀ c, State.reset.reading c = none) ∧ State.reset.heat.header = .off ∧
  (∀ z, State.reset.zone z = ZoneRec.reset) ∧ (∀ u, State.reset.unit u = GlueRec.reset) ∧
  (∀ u, (State.reset.unit u).gapOutput = .park ∧ (State.reset.unit u).applyOut = false ∧
    (State.reset.unit u).liftOut = true) ∧
  State.reset.gov.mode = .unconfigured ∧ State.reset.gov.reference = 0 ∧ State.reset.cfg.accepted = [] ∧
  State.reset.limits.requested = 0 ∧ State.reset.link.rxState = .hunting ∧ State.reset.link.queue = [] ∧
  State.reset.link.tx = .idle ∧ State.reset.notices.threshold = 7 ∧
  (∀ i, tget State.reset.notices.waiting i = decide (i = srcLineMode)) ∧
  State.reset.SpeedOk ∧ State.reset.RoomOk ∧ State.reset.SpansOk ∧ State.reset.MapInOrder ∧
  State.reset.RollsOk ∧ State.reset.HeatOk

/-! ### Invariants every step keeps -/

/-- The reference stays 0 outside RUNNING and STOPPING, and no speed passes 450.0 m/min. -/
def Obligations.StepKeepsSpeeds : Prop :=
  ∀ s t : State, s.SpeedOk → step s = .next t → t.SpeedOk

/-- The map, the book, the completed list, the out-conveyor and the receive queue stay within their room. -/
def Obligations.StepKeepsRoom : Prop :=
  ∀ s t : State, s.RoomOk → step s = .next t → t.RoomOk

/-- No source gets two open spans, and open spans are those with a source they are open for; and the spans stay in map order, by the
signed distance of their starts from the E of the moment (R4). -/
def Obligations.StepKeepsSpans : Prop :=
  (∀ s t : State, s.SpansOk → step s = .next t → t.SpansOk) ∧
    ∀ s t : State, s.MapInOrder → step s = .next t → t.MapInOrder

/-- No stand gets two RUNNING rolls. -/
def Obligations.StepKeepsOneRunningRoll : Prop :=
  ∀ s t : State, s.RollsOk → step s = .next t → t.RollsOk

/-- No zone that is disabled, or whose header is not READY, gets an output, and every output and integral stays in its
range. -/
def Obligations.StepKeepsHeat : Prop :=
  ∀ s t : State, s.HeatOk → step s = .next t → t.HeatOk

/-! ### The encoder and the Governor period -/

/-- R1: a forward count lowers the backtrack count, or raises E by 1 when it is 0; a reverse count raises the backtrack count up to
16,777,215 and leaves E. -/
def Obligations.EncoderCountsMoveE : Prop :=
  ∀ s : State,
    (∃ t, exec .forwardCount s = .next t ∧
      (0 < s.tracker.backtrack → t.tracker.backtrack = s.tracker.backtrack - 1 ∧ t.tracker.pos = s.tracker.pos) ∧
      (s.tracker.backtrack = 0 → t.tracker.backtrack = 0 ∧ t.tracker.pos = s.tracker.pos + 1)) ∧
    exec .reverseCount s = .next (State.quietEnd
      { s with
        inbox := [],
        tracker := { s.tracker with
          backtrack := if s.tracker.backtrack < 16777215 then s.tracker.backtrack + 1 else 16777215 } })

/-- A step of E hands over every registration it reaches and removes it, draws each RUNNING roll or makes it due a decrement, and
sets the board in motion: all in an order the part picks (R2, R98, R163; the order is a free value, log 3). The map is left as it is, but
that a span whose start then lies 2^31 - 1 counts ahead of E goes to the end of map order (R4). -/
def Obligations.ForwardStepHandsOverCrossings : Prop :=
  ∀ s : State, s.tracker.backtrack = 0 →
    ∃ (stands : Vector StandRec 7) (regs : Regs) (l : List Ev) (choice : Nat),
      exec .forwardCount s = .next (State.finish
        { s with
          tracker := { s.tracker with pos := s.tracker.pos + 1, window := s.tracker.window + 1 },
          map := { s.map with spans := mapTurn (s.tracker.pos + 1) s.map.spans },
          stands := stands, regs := regs, inbox := l, choice := choice }) ∧
      l.Perm
        (allPurposes.filterMap (fun p => match s.regs.get p with
            | some q => if ((s.tracker.pos + 1) - q).toNat < 2147483648 then some (Ev.crossing p q) else none
            | none => none) ++
          (allStands.filter s.dueDecrement).map Ev.decrement ++ (if s.glue.motion then [] else [Ev.motionSet])) ∧
      (mapTurn (s.tracker.pos + 1) s.map.spans).Perm s.map.spans ∧
      ((∀ x ∈ s.map.spans, x.start ≠ s.tracker.pos + 1 + 0x7FFFFFFF#32) →
        mapTurn (s.tracker.pos + 1) s.map.spans = s.map.spans) ∧
      (∀ p, regs.get p = match s.regs.get p with
        | some q => if ((s.tracker.pos + 1) - q).toNat < 2147483648 then none else some q
        | none => none) ∧
      ∀ n, tget stands n = match (s.stand n).running, (s.stand n).runningRoll with
        | some m, some x =>
          if s.cpm * 1000 ≤ x.acc + (s.standCfg n).takeup then s.stand n
          else (s.stand n).setArm m (some { x with acc := x.acc + (s.standCfg n).takeup })
        | _, _ => s.stand n

/-- A decrement takes 1 m and CPM x 1,000 off the RUNNING roll, and nothing else while the roll stays above its thresholds; at or
below RESERVE it makes the expiry of an OPERATING stand DUE, or RAISED while the line moves, and the first one at or below a threshold
marks STANDS; one that brings the roll to 0 is a run-out: the roll is EXPIRED, the stand FAULTED, and the web loss is reported (R98,
R100, R102, R110; `first` is since the roll became RUNNING, log 19). -/
def Obligations.DecrementDrawsRoll : Prop :=
  ∀ (s : State) (n : Stand) (m : Arm) (x : Roll), (s.stand n).running = some m → (s.stand n).arm m = some x →
    ((s.standCfg n).reserve < x.remaining - 1 → (s.standCfg n).minRun < x.remaining - 1 →
      s.handle (.decrement n) = s.setStand n ((s.stand n).setArm m
        (some { x with
          remaining := x.remaining - 1, acc := x.acc + (s.standCfg n).takeup - s.cpm * 1000 }))) ∧
    (2 ≤ x.remaining →
      let atReserve := decide (x.remaining - 1 ≤ (s.standCfg n).reserve)
      let atMinRun := decide (x.remaining - 1 ≤ (s.standCfg n).minRun)
      let due := atReserve && decide ((s.stand n).fault = none) && decide ((s.stand n).expiry = .notDue)
      let moves := decide (s.gov.mode = .running) || decide (s.gov.mode = .stopping)
      let t := s.handle (.decrement n)
      t = { s with stands := t.stands, notices := t.notices, inbox := t.inbox } ∧
      t.stand n = { (s.stand n).setArm m (some
          { x with
            remaining := x.remaining - 1, acc := x.acc + (s.standCfg n).takeup - s.cpm * 1000,
            reserveSeen := x.reserveSeen || atReserve, minRunSeen := x.minRunSeen || atMinRun }) with
        expiry := if due then (if moves then .raised else .due) else (s.stand n).expiry } ∧
      (∀ k : Stand, k ≠ n → t.stand k = s.stand k) ∧
      t.inbox = s.inbox ++ (if due && moves then [.expiry n] else []) ++ (if atMinRun then [.minRun n] else []) ∧
      t.notices = (if (atReserve && !x.reserveSeen) || (atMinRun && !x.minRunSeen) then
        s.notices.markChanged srcStands else s.notices)) ∧
    (x.remaining = 1 →
      (let t := s.handle (.decrement n)
       t = { s with stands := t.stands, map := t.map, notices := t.notices, inbox := t.inbox, choice := t.choice } ∧
         ∀ k : Stand, k ≠ n → t.stand k = s.stand k) ∧
      (∃ l, (s.handle (.decrement n)).inbox = l ++ [.webLoss n, .halt n .runOut]) ∧
      (∃ y, ((s.handle (.decrement n)).stand n).arm m = some y ∧ y.state = .expired ∧ y.remaining = 0) ∧
      ((s.handle (.decrement n)).stand n).fault = some ((s.stand n).fault.getD .runOut) ∧
      ((s.handle (.decrement n)).stand n).breakFlag = true)

/-- The Governor period reaches the Position Tracker, the Governor and the Glue Units in an order the part picks (log 4), and
the tracker publishes the window's speed and opens a new window (R3). -/
def Obligations.GovernorPeriodPublishes : Prop :=
  (∀ s : State, ∃ l : List Ev, l.Perm [.publish, .govStep, .glueTargets] ∧
    exec .governorPeriodExpiry s = .next (State.finish { s with inbox := l, choice := s.choice + 3 })) ∧
  ∀ s : State,
    let t := s.handle .publish
    t.tracker =
      { s.tracker with
        measured := (match s.cfg.geometry with | some g => min 4500 (s.tracker.window * 6000 / g.cpm) | none => 0),
        window := 0 } ∧
    t = { s with
      tracker := t.tracker, splice := t.splice, glue := t.glue, map := t.map, notices := t.notices, inbox := t.inbox,
      choice := t.choice }

/-- The Governor's step moves the reference toward the target by the mode, and ends a stop at rest (R180, R181, R182). -/
def Obligations.GovernorStepMovesReference : Prop :=
  ∀ s : State,
    let g := s.gov
    let t := s.handle .govStep
    let slowed := if g.fast then g.reference - s.govCfg.fastStep else g.reference - s.govCfg.decelStep
    t = { s with gov := t.gov, notices := t.notices, inbox := t.inbox } ∧
    (g.mode = .running →
      t.inbox = s.inbox ∧
      t.gov = { g with
        target := s.limits.target, source := s.limits.source,
        reference :=
          if g.reference < s.limits.target then min s.limits.target (g.reference + s.govCfg.accelStep)
          else max s.limits.target (g.reference - s.govCfg.decelStep) }) ∧
    (g.mode = .stopping → slowed = 0 → s.tracker.measured = 0 →
      t.inbox = s.inbox ++ [.modeEntry .stopping (if g.fast then .halted else .stopped)] ∧
      t.gov = { g with
        target := 0, source := if g.fast then .fast else .stop, reference := 0, fast := false, runOut := false,
        mode := if g.fast then .halted else .stopped, modeEntries := (g.modeEntries + 1) % 256 }) ∧
    (g.mode = .stopping → ¬(slowed = 0 ∧ s.tracker.measured = 0) →
      t.inbox = s.inbox ∧
      t.gov = { g with target := 0, source := if g.fast then .fast else .stop, reference := slowed }) ∧
    (g.mode ≠ .running → g.mode ≠ .stopping →
      t.inbox = s.inbox ∧ t.gov = { g with target := 0, source := .none, reference := 0 })

/-- The target is the lowest active limit, and the limiting source the first of the list with that value (R180). -/
def Obligations.TargetIsLowestLimit : Prop :=
  ∀ l : Limits,
    (∀ x ∈ l.list, ∀ v, x.2 = some v → l.target ≤ v) ∧
    ∃ (before : List (LimitSource × Option Nat)) (x : LimitSource × Option Nat)
      (after : List (LimitSource × Option Nat)),
      l.list = before ++ x :: after ∧ x.2 = some l.target ∧ l.source = x.1 ∧ ∀ y ∈ before, y.2 ≠ some l.target

/-! ### The Order Book -/

/-- The plan refresh takes a placement pass. A pass leaves every frozen order where it is. When it is applied, each linked unfrozen order
starts at the end it sets for the order before, where that end is unfrozen; every other start stays as it is: a head order's, and that of
an order linked to a frozen end or to an order that has left the book (R25, R28, R29). -/
def Obligations.PlanRefreshPlacesOrders : Prop :=
  (∀ s : State, exec .planRefreshExpiry s = .next (State.finish (State.placementPass { s with inbox := [] }))) ∧
  (∀ s : State,
    let t := s.placementPass
    t = { s with book := t.book, regs := t.regs, notices := t.notices, inbox := t.inbox }) ∧
  (∀ (s : State) (i : Nat) (o : Order), s.book.orders[i]? = some o → o.frozen = true →
    ∃ o' : Order, s.placementPass.book.orders[i]? = some o' ∧ o'.start = o.start ∧ o'.stop = o.stop ∧
      o'.frozen = true ∧ o'.spec = o.spec) ∧
  ∀ (s : State) (i : Nat) (o y : Order), s.placementPass.book.notApplied = false → s.book.orders[i]? = some o →
    o.frozen = false → s.placementPass.book.orders[i]? = some y →
    (o.linked = false ∨ i = 0 → y.start = o.start) ∧
    (o.linked = true → ∀ (k : Nat) (x x' : Order), i = k + 1 → s.book.orders[k]? = some x →
      s.placementPass.book.orders[k]? = some x' → y.start = if x.frozen then o.start else x'.stop)

/-- The planned end of an order whose end is unfrozen is a cut of its own grid, at or beyond the grid positions passed, at or
beyond the freeze horizon, and less than 2^31 - 2^24 beyond E (R26, R27, R28). -/
def Obligations.PlannedEndIsGridCutPastFreeze : Prop :=
  ∀ (s : State) (bad : List (Int × Int)) (o : Order) (p : Pos), 0 < s.productOf o.spec → s.planEnd bad o = some p →
    (∃ j, o.gridPassed ≤ j ∧ p = o.start.plus (j * s.productOf o.spec / 10000)) ∧
      (s.dFreeze : Int) ≤ s.tracker.pos.ahead p ∧ s.tracker.pos.ahead p < 2130706432

/-- The remainder carry taken j times from remainder 0 has gone floor(j x P / 10,000) counts, with remainder j x P modulo 10,000:
the cuts made from one to the next are the cuts of the plan (R48). -/
def Obligations.GridCarryKeepsGrid : Prop :=
  ∀ P j : Nat,
    Nat.iterate
      (fun x : Nat × Nat => (x.1 + (carry (P / 10000) (P % 10000) x.2).1, (carry (P / 10000) (P % 10000) x.2).2))
      j (0, 0) = (j * P / 10000, j * P % 10000)

/-- SET_GRADE checks the code, the ranges and the grade's use in that order and replaces the whole entry; an order of a grade of cap 0
holds the ORDER limit at 0 while the limit includes it; READ_GRADE gives the grade back as written, with the number of active orders
naming it (R21, R22). -/
def Obligations.GradesAreWrittenAndRead : Prop :=
  ∀ (tag : Byte) (s : State),
    (∀ (code : Nat) (g : Grade),
      (64 ≤ code ∨ Grade.inRange g = false →
        exec (.setGrade tag code g) s = .next ((s.heard 0x18 tag).answered 0x18 tag .badValue []).refreshLimits) ∧
      (code < 64 → Grade.inRange g = true → s.namingOf code ≠ 0 →
        exec (.setGrade tag code g) s = .next ((s.heard 0x18 tag).answered 0x18 tag .inUse []).refreshLimits)) ∧
    (∀ (code : Fin 64) (g : Grade), Grade.inRange g = true → tget s.book.naming code = 0 →
      exec (.setGrade tag code.val g) s = .next
        (({ s.heard 0x18 tag with book := { s.book with grades := tset s.book.grades code (some g) } } :
          State).answered 0x18 tag .ok (u8 code.val)).refreshLimits) ∧
    (∀ (o : Order) (g : Grade), o ∈ s.book.orders → s.inOrderLimit o = true → s.grade? o.spec.grade = some g → g.cap = 0 →
      s.orderLimit = some 0) ∧
    (∀ code : Nat, 64 ≤ code →
      exec (.readGrade tag code) s = .next ((s.heard 0x19 tag).answered 0x19 tag .badValue []).refreshLimits) ∧
    ∀ code : Fin 64,
      exec (.readGrade tag code.val) s = .next (match tget s.book.grades code with
        | none => ((s.heard 0x19 tag).answered 0x19 tag .notFound []).refreshLimits
        | some g =>
          ((s.heard 0x19 tag).answered 0x19 tag .ok (Grade.enc g ++ u32 (tget s.book.naming code))).refreshLimits)

/-- ADD_ORDER is refused by each check in its order; an accepted order joins the end of the book PLACED with every counter at 0,
linked when the last active order's end is unfrozen, its start the higher of the tail and the freeze horizon, and stays the last of the
book through the placement pass of its acceptance, which may move it and freeze its end (R24, R25). A grade code above 63 is BAD_VALUE
(log 16) and the reply gives the placement after the pass (log 41): the model's choices. -/
def Obligations.AddOrderEntersOrRefuses : Prop :=
  ∀ (tag : Byte) (o : OrderSpec) (s : State),
    let refused := fun st : Status =>
      exec (.addOrder tag o) s = .next ((s.heard 0x1A tag).answered 0x1A tag st []).refreshLimits
    (s.gov.mode = .unconfigured → refused .wrongMode) ∧
    (s.gov.mode ≠ .unconfigured → s.orderRanges o = false ∨ s.orderSheets o = false → refused .badValue) ∧
    (s.gov.mode ≠ .unconfigured → s.orderRanges o = true → s.orderSheets o = true →
      (s.grade? o.grade = none → refused .notFound) ∧
      ((s.grade? o.grade).isSome = true →
        ((s.order? o.id).isSome = true ∨ (s.completed? o.id).isSome = true → refused .duplicate) ∧
        (s.order? o.id = none → s.completed? o.id = none →
          (32 ≤ s.book.orders.length → refused .full) ∧
          (s.book.orders.length < 32 →
            (s.planEnd s.badBoard (s.freshOrder o) = none → refused .full) ∧
            ∀ p : Pos, s.planEnd s.badBoard (s.freshOrder o) = some p →
              (1073741824 ≤ s.tracker.pos.ahead p → refused .full) ∧
              (s.tracker.pos.ahead p < 1073741824 →
                ∃ (t : State) (x : Order), t = (s.heard 0x1A tag).acceptOrder { s.freshOrder o with stop := p } ∧
                  exec (.addOrder tag o) s = .next (t.answered 0x1A tag .ok
                    (u32 o.id ++ u8 x.state.code ++ encPos x.start ++ encPos x.stop ++ encBool x.frozen)).finish ∧
                  t = { s.heard 0x1A tag with
                    book := t.book, regs := t.regs, notices := t.notices, inbox := t.inbox } ∧
                  t.order? o.id = some x ∧ t.book.orders.getLast? = some x ∧
                  t.book.orders.length = s.book.orders.length + 1 ∧ Ev.accepted ∈ t.inbox ∧
                  x = { s.freshOrder o with start := x.start, stop := x.stop, state := x.state, frozen := x.frozen } ∧
                  x.state = (if x.frozen then .frozen else .placed) ∧
                  (let first := match s.tail with
                    | some w => posMax s.tracker.pos w (s.tracker.pos.plus s.dFreeze)
                    | none => s.tracker.pos.plus s.dFreeze
                  s.freshOrder o =
                    { spec := o, state := .placed, start := first, stop := first, frozen := false,
                      linked := (match s.book.orders.getLast? with | some y => !y.frozen | none => false),
                      gridPassed := 0, sheetsCut := 0, rejected := 0, surplus := 0, skipped := 0, good := 0, overflow := 0,
                      stacksDone := 0, outcome := none }))))))

/-- CHANGE_COUNT and CANCEL_ORDER: the checks in their order, the fields replaced or the order moved to the completed list, and
a placement pass, at a cancel with the linked successor at the cancelled order's start (R37, R38). -/
def Obligations.ChangeAndCancelReplan : Prop :=
  ∀ (tag : Byte) (id : Nat) (s : State),
    (s.order? id = none →
      (∀ n a : Nat, exec (.changeCount tag id n a) s = .next ((s.heard 0x1B tag).answered 0x1B tag
        (if (s.completed? id).isSome then .tooLate else .notFound) []).refreshLimits) ∧
      exec (.cancelOrder tag id) s = .next ((s.heard 0x1C tag).answered 0x1C tag
        (if (s.completed? id).isSome then .tooLate else .notFound) []).refreshLimits) ∧
    ∀ o : Order, s.order? id = some o →
      (∀ n a : Nat,
        let fits := 1 ≤ n ∧ n ≤ 99999 ∧ a ≤ 500 ∧ (n + a) * (s.productOf o.spec / 10000 + 1) < 1073741824
        let reply := fun st : Status => ((s.heard 0x1B tag).answered 0x1B tag st []).refreshLimits
        (¬fits → exec (.changeCount tag id n a) s = .next (reply .badValue)) ∧
        (fits → o.frozen = true → exec (.changeCount tag id n a) s = .next (reply .tooLate)) ∧
        (fits → o.frozen = false → n + a < o.knifeGood →
          exec (.changeCount tag id n a) s = .next (reply .badValue)) ∧
        (fits → o.frozen = false → o.knifeGood ≤ n + a →
          ∃ (t : State) (x : Order),
            t = ((s.heard 0x1B tag).updateOrder id (fun y =>
              { y with spec := { y.spec with ordered := n, allowance := a } })).placementPass ∧
            exec (.changeCount tag id n a) s = .next (t.answered 0x1B tag .ok
              (encPos x.start ++ encPos x.stop ++ encBool x.frozen)).finish ∧
            t.order? id = some x ∧ x.spec.ordered = n ∧ x.spec.allowance = a)) ∧
      (s.startFrozen o = true →
        exec (.cancelOrder tag id) s = .next ((s.heard 0x1C tag).answered 0x1C tag .tooLate []).refreshLimits) ∧
      (s.startFrozen o = false →
        ∃ t : State, exec (.cancelOrder tag id) s = .next (t.answered 0x1C tag .ok []).finish ∧
          (let left : State := { s.heard 0x1C tag with book := s.book.complete { o with state := .cancelled } }
          t = (State.post (match s.linkedNext id with
            | some y => left.updateOrder y.spec.id (fun z => { z with start := o.start })
            | none => left) .orderChange).placementPass) ∧
          t = { s.heard 0x1C tag with book := t.book, regs := t.regs, notices := t.notices, inbox := t.inbox } ∧
          t.order? id = none ∧ t.book.completed.getLast? = some { o with state := .cancelled } ∧
          (∀ c : Fin 64, o.spec.grade = c.val → tget t.book.naming c = tget s.book.naming c - 1))

/-! ### The Reject Map -/

/-- ADD_REJECT: the checks in their order, and the MARKED span of the link added to the map, by a merge or a fold where R7 and R10 have
one (R16); before GEOMETRY, which the mode shuts out, the map takes none. -/
def Obligations.AddRejectMarksBoard : Prop :=
  ∀ (tag : Byte) (a b : Pos) (s : State),
    let h := s.heard 0x10 tag
    let d := (b - a).toNat
    (s.gov.mode = .unconfigured → exec (.addReject tag a b) s = .next (h.answered 0x10 tag .wrongMode []).refreshLimits) ∧
    (s.gov.mode ≠ .unconfigured → d = 0 ∨ 2147483648 ≤ d →
      exec (.addReject tag a b) s = .next (h.answered 0x10 tag .badValue []).refreshLimits) ∧
    (s.gov.mode ≠ .unconfigured → 0 < d → d < 2147483648 → (s.tracker.pos - b).toNat < 2147483648 →
      exec (.addReject tag a b) s = .next (h.answered 0x10 tag .tooLate []).refreshLimits) ∧
    (s.gov.mode ≠ .unconfigured → 0 < d → d < 2147483648 → 2147483648 ≤ (s.tracker.pos - b).toNat →
      ∃ (t : State) (sp : Option Span), (t, sp) = h.addSpanTell .marked .link a b ∧
        t = { h with map := t.map, notices := t.notices, inbox := t.inbox, choice := t.choice } ∧
        exec (.addReject tag a b) s = .next (t.answered 0x10 tag .ok
          (match sp with | some x => (t.viewOf x).enc | none => [])).finish)

/-- No operation of the map takes board out of it before the knife has passed it: adding a span, opening one and closing one at its
station leave covered what was covered, a span added covers all its board beyond E, and pruning at a cut leaves the board beyond it
(R5 to R14). -/
def Obligations.MapKeepsCoverage : Prop :=
  ∀ (s : State) (kind : SpanKind) (src : Source) (a b p : Pos),
    (s.SpansOk → s.covers p = true →
      (s.addSpan kind src a b).covers p = true ∧ (s.openSpan kind src a).covers p = true ∧
      (s.closeSpan src (s.tracker.pos.plus (s.distance src))).covers p = true ∧
      (isBelow s.tracker.pos p b = false → (s.prune b).covers p = true)) ∧
    (s.cfg.geometry.isSome = true → isReached s.tracker.pos b = false →
      isBelow s.tracker.pos p (clampStart s.tracker.pos a) = false → isBelow s.tracker.pos p b = true →
      (s.addSpan kind src a b).covers p = true)

/-! ### The Cutoff Unit -/

/-- HOLD_KNIFE and RELEASE_KNIFE set the knife state in every mode but UNCONFIGURED; a held knife holds the KNIFE limit at 0; the
release of a held one recomputes it with the CPM in force and the WASTE_LEN that applies at the knife, which is how the model reads 'in
force' of R57 (log 18); the knife cycle's expiry makes the cycle idle (R52, R58, R59, R60). -/
def Obligations.KnifeHoldReleaseAndCycle : Prop :=
  ∀ (tag : Byte) (s : State),
    (s.gov.mode = .unconfigured →
      exec (.holdKnife tag) s = .next ((s.heard 0x20 tag).answered 0x20 tag .wrongMode []).refreshLimits ∧
      exec (.releaseKnife tag) s = .next ((s.heard 0x21 tag).answered 0x21 tag .wrongMode []).refreshLimits) ∧
    (s.gov.mode ≠ .unconfigured →
      (∃ t : State,
        exec (.holdKnife tag) s = .next t ∧ t.limits.knife = some 0 ∧
        t = (({ s.heard 0x20 tag with cutoff := { s.cutoff with ready := false } } :
          State).answered 0x20 tag .ok [0]).refreshLimits) ∧
      exec (.releaseKnife tag) s = .next (({ s.heard 0x21 tag with
          cutoff := if s.cutoff.ready then s.cutoff else
            { s.cutoff with ready := true, limitCpm := s.cpm, limitWaste := s.cutoff.wasteLen } } :
        State).answered 0x21 tag .ok [1]).refreshLimits) ∧
    exec .knifeCycleExpiry s = .next
      (State.quietEnd { s with inbox := [], cutoff := { s.cutoff with cycle := none } })

/-- The knife value of a sheet length is floor(L x C_MAX / 1,000) clamped to 4,500; in an ORDER segment L is the order's sheet length, in
a WASTE segment floor(WASTE_LEN x 10,000 / CPM), with the CPM of the last recomputation of the limit and the WASTE_LEN that applied at
the knife then, that of the last waste cut computed (R45). A reported freeze and a head start recompute it. With the knife READY the KNIFE
limit is the value of the segment at the knife, or the lower of it and the next segment's once the segment's end is known (R57, R58).
That the owner sets it after every event, and which WASTE_LEN it takes, is the model's reading (log 18). -/
def Obligations.KnifeValueFromSheetLength : Prop :=
  (∀ (s : State) (len : Nat), s.knifeValue len = min 4500 (len * s.dry.cMax / 1000)) ∧
  (∀ (s : State) (g : Grid) (o : Order), s.gov.mode ≠ .unconfigured → s.cutoff.ready = true →
    s.cutoff.segment = .order g → s.order? g.id = some o → o.frozen = false →
    s.refreshLimits.limits.knife = some (min 4500 (o.spec.len * s.dry.cMax / 1000))) ∧
  (∀ (s : State) (g : Grid) (o : Order), s.gov.mode ≠ .unconfigured → s.cutoff.ready = true →
    s.cutoff.segment = .order g → s.order? g.id = some o → o.frozen = true →
    (∀ y, nextOf g.id s.book.orders = some y → y.start = o.stop →
      s.refreshLimits.limits.knife = some (min (s.knifeValue o.spec.len) (s.knifeValue y.spec.len))) ∧
    ((∀ y, nextOf g.id s.book.orders = some y → y.start ≠ o.stop) →
      s.refreshLimits.limits.knife = some (min (s.knifeValue o.spec.len) s.wasteValue))) ∧
  (∀ s : State, s.gov.mode ≠ .unconfigured → s.cutoff.ready = true → s.cutoff.segment = .waste →
    (s.cutoff.lastPassed.bind s.orderBeyond = none →
      s.refreshLimits.limits.knife =
        some (min 4500 (s.cutoff.limitWaste * 10000 / s.cutoff.limitCpm * s.dry.cMax / 1000))) ∧
    ∀ o, s.cutoff.lastPassed.bind s.orderBeyond = some o →
      s.refreshLimits.limits.knife = some (min s.wasteValue (s.knifeValue o.spec.len))) ∧
  (∀ s : State,
    let t := s.handle .headStart
    t.cutoff.limitCpm = s.cpm ∧ t.cutoff.limitWaste = t.cutoff.wasteLen ∧
      (∀ c, s.cutoff.segment = .waste → s.cutoff.lastPassed = some c →
        t.cutoff.wasteLen = s.dry.wasteLen ∧ t.cutoff.kMin = s.dry.kMin)) ∧
  (∀ s : State,
    let t := s.handle .endFrozen
    t.cutoff = { s.cutoff with limitCpm := s.cpm, limitWaste := s.cutoff.wasteLen } ∧ t = { s with cutoff := t.cutoff }) ∧
  (∀ s : State, s.dry.cMax = 300 → s.knifeValue 12345 = 3703) ∧
  ∀ s : State, s.dry.cMax = 300 → s.cutoff.limitWaste = 60000 → s.cutoff.limitCpm = 23456 → s.wasteValue = 4500

/-- At the registered next cut the knife fires, or skips for the first cause that holds of TOO_CLOSE, HELD, CYCLING and ESTOPPED. A
skip counts and makes no sheet; a cut counts, starts the knife cycle, empties the open sheet and hands on a sheet from the last cut to
this one, REJECT where the map covers it, and GOOD only where it is not covered and the order still needs it (R52, R53, R55). K_MIN is
that of the last waste cut computed: a next cut of waste takes the K_MIN and WASTE_LEN of the section in force from it on, and a grid cut
leaves them (R45; that grid cuts too are tested with that K_MIN is the model's reading, log 49). What the cut reports, as it would
with nothing waiting, stands before all that waits, and the map change of its pruning after that, last of all or right before the crossing
of the freeze (R14, R28, R54; the model's reading, logs 3, 17). -/
def Obligations.CutFiresOrSkips : Prop :=
  ∀ (s : State) (c : Pos),
    let t := s.handle (.crossing .cut c)
    let close := ∃ p, s.cutoff.lastPassed = some p ∧ (c - p).toNat < s.cutoff.kMin
    let skips := fun cause : SkipCause =>
      t.cutoff.made = s.cutoff.made ∧ t.cutoff.skipped = s.cutoff.skipped + 1 ∧ t.cutoff.lastSkip = some cause ∧
        t.cutoff.lastCut = s.cutoff.lastCut ∧ t.cutoff.cycle = s.cutoff.cycle ∧
        ∀ r : Sheet, Ev.sheet r ∈ t.inbox → Ev.sheet r ∈ s.inbox
    t.cutoff.lastPassed = some c ∧
    (t.cutoff.segment = .waste → t.cutoff.kMin = s.dry.kMin ∧ t.cutoff.wasteLen = s.dry.wasteLen) ∧
    (∀ g, t.cutoff.segment = .order g → t.cutoff.kMin = s.cutoff.kMin ∧ t.cutoff.wasteLen = s.cutoff.wasteLen) ∧
    t = { s with cutoff := t.cutoff, regs := t.regs, map := t.map, inbox := t.inbox, choice := t.choice } ∧
    (∃ reports changed l r : List Ev,
      (({ s with inbox := [] } : State).handle (.crossing .cut c)).inbox = reports ++ changed ∧
      Ev.mapChange ∉ reports ∧ (changed = [] ∨ changed = [.mapChange]) ∧
      s.inbox.filter (Ev.notFor .cut) = l ++ r ∧ t.inbox = reports ++ l ++ changed ++ r ∧
      (r = [] ∨ (∀ e ∈ l, e.notFor .freeze = true) ∧ ∃ e r', r = e :: r' ∧ e.notFor .freeze = false)) ∧
    (close → skips .tooClose) ∧
    (¬close → s.cutoff.ready = false → skips .held) ∧
    (¬close → s.cutoff.ready = true → s.cutoff.cycle.isSome = true → skips .cycling) ∧
    (¬close → s.cutoff.ready = true → s.cutoff.cycle = none → s.gov.mode = .estopped → skips .estopped) ∧
    (¬close → s.cutoff.ready = true → s.cutoff.cycle = none → s.gov.mode ≠ .estopped →
      t.cutoff.made = s.cutoff.made + 1 ∧ t.cutoff.skipped = s.cutoff.skipped ∧ t.cutoff.lastCut = c ∧
      t.cutoff.cycle = some s.dry.knifeCycle ∧ t.cutoff.openSheet = [] ∧ t.cutoff.openWaste = false ∧
      ∃ r : Sheet, Ev.sheet r ∈ t.inbox ∧ r.start = s.cutoff.lastCut ∧ r.stop = c ∧
        (s.isCovered s.cutoff.lastCut c = true → r.cls = .reject) ∧
        (r.cls = .good →
          s.isCovered s.cutoff.lastCut c = false ∧ s.cutoff.openSheet = [] ∧ s.cutoff.openWaste = false ∧
          ∃ (g : Grid) (o : Order), s.cutoff.segment = .order g ∧ s.order? g.id = some o ∧ g.g < OrderSpec.n o.spec))

/-! ### The Slitter Pair -/

/-- SET DONE and the set timer act on a station in SETTING only: SET DONE makes it READY, or ENGAGED where it is the incoming
station of an awaited swap; the expiry makes it FAULT, and hands an awaited swap to the other station when that one is neither
ENGAGED nor in FAULT (R65, R70; that the expiry has no effect on a station that is not SETTING is the model's choice, log 9). -/
def Obligations.SetDoneAndSetExpiry : Prop :=
  ∀ (st : Station) (s : State),
    let other := Station.other st
    let awaits := s.slitter.awaited.isSome = true ∧ s.slitter.incoming = some st
    let acts := s.gov.mode ≠ .estopped ∧ s.gov.mode ≠ .unconfigured
    let quiet : State := { s with inbox := [] }
    (s.stationState st ≠ .setting →
      exec (.setDone st) s = .next quiet.quietEnd ∧ exec (.setTimerExpiry st) s = .next quiet.quietEnd) ∧
    (s.stationState st = .setting →
      (¬(awaits ∧ acts) →
        exec (.setDone st) s = .next
          ((quiet.updStation st (fun x => { x with state := .ready, timer := none })).mark srcSlitter).quietEnd) ∧
      (awaits → acts →
        ∃ t : State, exec (.setDone st) s = .next t.finish ∧
          t = { s with
            slitter := t.slitter, map := t.map, notices := t.notices, inbox := t.inbox, choice := t.choice } ∧
          t.slitter.awaited = none ∧ t.slitter.incoming = none ∧
          (t.slitter.station st).state = .engaged ∧ (t.slitter.station st).timer = none) ∧
      (¬awaits →
        exec (.setTimerExpiry st) s = .next
          ((quiet.updStation st (fun x => { x with state := .fault, timer := none })).mark srcSlitter).quietEnd) ∧
      (awaits →
        ∃ t : State, exec (.setTimerExpiry st) s = .next t ∧
          t = { quiet with slitter := t.slitter, limits := t.limits, notices := t.notices, link := t.link } ∧
          (t.slitter.station st).state = .fault ∧
          (t.slitter.station st).timer = none ∧ t.slitter.awaited = s.slitter.awaited ∧
          (s.stationState other = .engaged ∨ s.stationState other = .fault →
            t.slitter.incoming = none ∧ t.slitter.station other = s.slitter.station other) ∧
          (s.stationState other ≠ .engaged → s.stationState other ≠ .fault →
            t.slitter.incoming = some other ∧
            (acts → (t.slitter.station other).state = .setting ∧ (t.slitter.station other).set = s.slitter.awaited ∧
              (t.slitter.station other).timer = some s.dry.setTime))))

/-- CLEAR_STATION takes a station out of FAULT and drops its set record; with a swap awaited and no incoming station it becomes
the incoming station and loads the awaited set, in ESTOPPED only once the mode changes (R74, R75; the reply gives IDLE, log 37, and a code
other than A or B is BAD_VALUE in UNCONFIGURED too, log 48: the model's choices). -/
def Obligations.ClearStationIdlesAndServes : Prop :=
  ∀ (tag : Byte) (s : State),
    let h := s.heard 0x28 tag
    (∀ k : Nat, 2 ≤ k → exec (.clearStation tag k) s = .next (h.answered 0x28 tag .badValue []).refreshLimits) ∧
    ∀ st : Station,
      (s.gov.mode = .unconfigured ∨ s.stationState st ≠ .fault →
        exec (.clearStation tag (Station.code st)) s = .next (h.answered 0x28 tag .wrongMode []).refreshLimits) ∧
      (s.gov.mode ≠ .unconfigured → s.stationState st = .fault →
        ∃ t : State,
          exec (.clearStation tag (Station.code st)) s =
            .next (t.answered 0x28 tag .ok (u8 (Station.code st) ++ [0])).refreshLimits ∧
          t = { h with slitter := t.slitter, notices := t.notices } ∧
          t.slitter.awaited = s.slitter.awaited ∧
          ((t.slitter.station st).state = .idle ∨ (t.slitter.station st).state = .setting) ∧
          ((t.slitter.station st).state = .idle →
            (t.slitter.station st).set = none ∧ (t.slitter.station st).timer = none) ∧
          ∀ w : SetRec, s.slitter.awaited = some w → s.slitter.incoming = none →
            t.slitter.incoming = some st ∧
            t.slitter.station (Station.other st) = s.slitter.station (Station.other st) ∧
            (s.gov.mode = .estopped → (t.slitter.station st).state = .idle) ∧
            (s.gov.mode ≠ .estopped →
              (t.slitter.station st).state = .setting ∧ (t.slitter.station st).set = some w ∧
              (t.slitter.station st).timer = some s.dry.setTime ∧
              (t.slitter.station st).slitHeads = headTargets 8 w.slits ∧
              (t.slitter.station st).scoreHeads = headTargets 12 w.scores))

/-! ### The gate and the Stacker -/

/-- The gate passes a sheet exactly when it is GOOD and a record has room for it: an empty table, the table's open record of its
order below the stack size, empty fingers, or the fingers' record of its order below the finger capacity; every other sheet is diverted
(R81, R82). -/
def Obligations.GatePassesPlacedSheets : Prop :=
  ∀ (s : State) (p : Pos) (r : TrainRec), s.stacker.oldestAhead = some r →
    let t := s.handle (.crossing .gate p)
    let room := fun id : Nat =>
      s.stacker.table = none ∨
      (∃ x, s.stacker.table = some x ∧ x.closed = false ∧ x.id = id ∧ x.lastFlag = false ∧ x.allotted < s.stackSize id) ∨
      s.stacker.fingers = none ∨
      ∃ x, s.stacker.fingers = some x ∧ x.closed = false ∧ x.id = id ∧ x.lastFlag = false ∧
        x.allotted < min 40 (s.stackSize id)
    (t.stacker.divert = false ↔ r.sheet.cls = .good ∧ ∃ c l, r.sheet.covers = c :: l ∧ room c.id) ∧
    (t.stacker.divert = true → t.stacker.train = replaceAhead none s.stacker.train) ∧
    t.stacker.out = s.stacker.out ∧
    t = { s with stacker := t.stacker, regs := t.regs, notices := t.notices, inbox := t.inbox }

/-- TRANSFER DONE moves the table's stack to the out-conveyor and the fingers' record to the table; STACK TAKEN removes the oldest
entry and lets a BLOCKED stacker transfer, outside ESTOPPED (R86, R87). -/
def Obligations.TransferDoneAndStackTaken : Prop :=
  ∀ s : State,
    let quiet : State := { s with inbox := [] }
    (s.stacker.mode ≠ .transferring ∨ s.stacker.table = none → exec .transferDone s = .next quiet.quietEnd) ∧
    (∀ x : StackRec, s.stacker.mode = .transferring → s.stacker.table = some x →
      ∃ t : State, exec .transferDone s = .next t.finish ∧
        t = { s with stacker := t.stacker, notices := t.notices, inbox := t.inbox } ∧
        t.stacker.out = s.stacker.out ++ [{ id := x.id, number := x.number, count := x.landed, short := x.short }] ∧
        t.stacker.fingers = none ∧
        t.stacker.table.map (fun y => (y.id, y.number, y.allotted, y.landed)) =
          s.stacker.fingers.map (fun y => (y.id, y.number, y.allotted, y.landed)) ∧
        (tget s.notices.levels srcStackOut ≠ 7 → tget t.notices.waiting srcStackOut = true)) ∧
    (s.stacker.out = [] → exec .stackTaken s = .next quiet.quietEnd) ∧
    ∀ (e : OutEntry) (l : List OutEntry), s.stacker.out = e :: l →
      (s.stacker.mode ≠ .blocked ∨ s.gov.mode = .estopped →
        exec .stackTaken s = .next
          (({ quiet with stacker := { s.stacker with out := l } } : State).mark srcStacker).quietEnd) ∧
      (s.stacker.mode = .blocked → s.gov.mode ≠ .estopped → l.length < 4 →
        exec .stackTaken s = .next
          (({ quiet with stacker := { s.stacker with out := l, mode := .transferring, transfer := true } } :
            State).mark srcStacker).quietEnd)

/-! ### The Reel Stands -/

/-- LOAD_ROLL checks codes, mode, ranges, the roll id and the arm in that order, and puts a LOADED roll on the arm, its remaining
length computed from its diameters and caliper (R97, R104). That the codes come before the mode is the model's choice (log 48). -/
def Obligations.LoadRollPutsRollOnArm : Prop :=
  ∀ (tag : Byte) (s : State) (r : RollSpec),
    let h := s.heard 0x38 tag
    (∀ k a : Nat, ¬(1 ≤ k ∧ k ≤ 7 ∧ a ≤ 1) →
      exec (.loadRoll tag k a r) s = .next (h.answered 0x38 tag .badValue []).refreshLimits) ∧
    ∀ (n : Stand) (m : Arm),
      exec (.loadRoll tag (Stand.number n) (Arm.code m) r) s = .next
        (if s.gov.mode = .unconfigured then (h.answered 0x38 tag .wrongMode []).refreshLimits
        else if RollSpec.inRange r = false then (h.answered 0x38 tag .badValue []).refreshLimits
        else if s.rollHeld r.id = true then (h.answered 0x38 tag .duplicate []).refreshLimits
        else if ((s.stand n).arm m).isSome = true then (h.answered 0x38 tag .busy []).refreshLimits
        else
          (((h.setStand n ((s.stand n).setArm m (some
            { spec := r, state := .loaded,
              remaining := 355 * (r.diameter ^ 2 - r.core ^ 2) / (452 * r.caliper),
              acc := 0, reserveSeen := false, minRunSeen := false }))).mark srcStands).answered 0x38 tag .ok
            (u8 (n.val + 1) ++ u8 (Arm.code m) ++ u32 r.id ++
              u16 (355 * (r.diameter ^ 2 - r.core ^ 2) / (452 * r.caliper)))).refreshLimits)

/-- MARK_READY and the PREPARED input make a LOADED roll READY, and the Splice Sequencer takes it; a READY roll stays as it is (R105).
That a stand or arm out of its values is BAD_VALUE in UNCONFIGURED too is the model's choice (log 48). -/
def Obligations.MarkReadyAndPrepared : Prop :=
  ∀ (tag : Byte) (s : State),
    let h := s.heard 0x39 tag
    let quiet : State := { s with inbox := [] }
    (∀ k a : Nat, ¬(1 ≤ k ∧ k ≤ 7 ∧ a ≤ 1) →
      exec (.markReady tag k a) s = .next (h.answered 0x39 tag .badValue []).refreshLimits) ∧
    ∀ n : Stand,
      (∀ m : Arm,
        (s.gov.mode = .unconfigured → exec (.markReady tag (Stand.number n) (Arm.code m)) s =
          .next (h.answered 0x39 tag .wrongMode []).refreshLimits) ∧
        (s.gov.mode ≠ .unconfigured → (s.stand n).arm m = none →
          exec (.markReady tag (Stand.number n) (Arm.code m)) s =
            .next (h.answered 0x39 tag .notReady []).refreshLimits) ∧
        ∀ x : Roll, s.gov.mode ≠ .unconfigured → (s.stand n).arm m = some x →
          (x.state = .running ∨ x.state = .expired → exec (.markReady tag (Stand.number n) (Arm.code m)) s =
            .next (h.answered 0x39 tag .wrongMode []).refreshLimits) ∧
          (x.state = .ready → exec (.markReady tag (Stand.number n) (Arm.code m)) s =
            .next (h.answered 0x39 tag .ok []).refreshLimits) ∧
          (x.state = .loaded → exec (.markReady tag (Stand.number n) (Arm.code m)) s =
            .next ((((h.setStand n ((s.stand n).setArm m (some { x with state := .ready }))).post
              (.rollReady n)).mark srcStands).answered 0x39 tag .ok []).finish)) ∧
      ((s.stand n).standby = none → exec (.prepared n) s = .next quiet.quietEnd) ∧
      ∀ m : Arm, (s.stand n).standby = some m →
        ((∀ x, (s.stand n).arm m = some x → x.state ≠ .loaded) → exec (.prepared n) s = .next quiet.quietEnd) ∧
        ∀ x : Roll, (s.stand n).arm m = some x → x.state = .loaded → exec (.prepared n) s =
          .next (((quiet.setStand n ((s.stand n).setArm m (some { x with state := .ready }))).post
            (.rollReady n)).mark srcStands).finish

/-- UNLOAD_ROLL clears an arm but for a RUNNING roll and for the READY standby roll of a stand with a sequence; THREAD makes a roll
RUNNING in STOPPED on a stand with none running, and tests its expiry, which stays silent until the line moves (R100, R106,
R107). That a stand or arm out of its values is BAD_VALUE in UNCONFIGURED too is the model's choice (log 48). -/
def Obligations.UnloadAndThread : Prop :=
  ∀ (tag : Byte) (s : State),
    let h := s.heard 0x3A tag
    let h' := s.heard 0x3B tag
    (∀ k a : Nat, ¬(1 ≤ k ∧ k ≤ 7 ∧ a ≤ 1) →
      exec (.unloadRoll tag k a) s = .next (h.answered 0x3A tag .badValue []).refreshLimits ∧
      exec (.thread tag k a) s = .next (h'.answered 0x3B tag .badValue []).refreshLimits) ∧
    ∀ (n : Stand) (m : Arm),
      exec (.unloadRoll tag (Stand.number n) (Arm.code m)) s = .next
        (if s.gov.mode = .unconfigured then (h.answered 0x3A tag .wrongMode []).refreshLimits
        else match (s.stand n).arm m with
          | none => (h.answered 0x3A tag .notFound []).refreshLimits
          | some x =>
            if x.state = .running then (h.answered 0x3A tag .wrongMode []).refreshLimits
            else if x.state = .ready ∧ (s.stand n).standby = some m ∧ (s.spl n).seq.isSome = true then
              (h.answered 0x3A tag .inUse []).refreshLimits
            else (((h.setStand n ((s.stand n).setArm m none)).mark srcStands).answered 0x3A tag .ok []).refreshLimits) ∧
      exec (.thread tag (Stand.number n) (Arm.code m)) s = .next
        (if s.gov.mode ≠ .stopped then (h'.answered 0x3B tag .wrongMode []).refreshLimits
        else if (s.stand n).running.isSome = true then (h'.answered 0x3B tag .busy []).refreshLimits
        else match (s.stand n).arm m with
          | none => (h'.answered 0x3B tag .notReady []).refreshLimits
          | some x =>
            if x.remaining = 0 then (h'.answered 0x3B tag .notReady []).refreshLimits
            else
              (((h'.setStand n { (s.stand n).setArm m (some
                  { x with state := .running, reserveSeen := false, minRunSeen := false }) with
                expiry := if x.remaining ≤ (s.standCfg n).reserve ∧ (s.stand n).fault = none then .due
                  else .notDue }).mark srcStands).answered 0x3B tag .ok
                (u8 (n.val + 1) ++ u8 (Arm.code m) ++ u32 x.spec.id ++ u16 x.remaining)).refreshLimits)

/-- A web loss at a stand with a RUNNING roll: the roll is EXPIRED, the stand FAULTED keeping its first cause, a WEB_BREAK span is
opened at E + D_STAND where the map has room, in place of any span open for the stand, and the loss is reported to the Splice Sequencer,
then the halt to the Governor; at a stand with none it has no effect (R102). -/
def Obligations.WebLostFaultsStand : Prop :=
  ∀ (n : Stand) (s : State),
    ((s.stand n).running = none → exec (.webLost n) s = .next (State.quietEnd { s with inbox := [] })) ∧
    ∀ m : Arm, (s.stand n).running = some m →
      ∃ (t : State) (l : List Ev), exec (.webLost n) s = .next t.finish ∧
        t = { s with
          stands := t.stands, map := t.map, notices := t.notices, inbox := t.inbox, choice := t.choice } ∧
        t.inbox = l ++ [.webLoss n, .halt n .webLost] ∧ (t.stand n).fault = some ((s.stand n).fault.getD .webLost) ∧
        (t.stand n).breakFlag = true ∧ (∃ x, (t.stand n).arm m = some x ∧ x.state = .expired) ∧
        (∀ k : Stand, k ≠ n → t.stand k = s.stand k) ∧
        (s.cfg.geometry.isSome = true → s.map.spans.length < 48 →
          (∃ sp ∈ t.map.spans, sp.openFor = some (.stand n)) ∧
          (s.SpansOk →
            ∃ sp ∈ t.map.spans, sp.kind = .webBreak ∧ sp.source = .stand n ∧ sp.openFor = some (.stand n) ∧ sp.stop = none ∧
              sp.start = clampStart s.tracker.pos (s.boardAt n) ∧
              ∀ x ∈ t.map.spans, x.openFor = some (.stand n) → x = sp))

/-- CLEAR_STAND: the checks in their order; the stand is OPERATING, the named arm RUNNING, and the Splice Sequencer told before it
takes up owed work (R108, R131). That a stand or arm out of its values is BAD_VALUE in UNCONFIGURED too is the model's choice (log 48). -/
def Obligations.ClearStandRestores : Prop :=
  ∀ (tag : Byte) (s : State),
    let h := s.heard 0x3C tag
    (∀ (k : Nat) (a : Option Nat), ¬(1 ≤ k ∧ k ≤ 7 ∧ ∀ x, a = some x → x ≤ 1) →
      exec (.clearStand tag k a) s = .next (h.answered 0x3C tag .badValue []).refreshLimits) ∧
    ∀ (n : Stand) (m : Option Arm),
      let c : Instr := .clearStand tag (Stand.number n) (m.map Arm.code)
      (s.gov.mode = .unconfigured ∨ (s.stand n).fault = none ∨
          (m.isSome = true ∧ (s.gov.mode = .running ∨ s.gov.mode = .stopping)) →
        exec c s = .next (h.answered 0x3C tag .wrongMode []).refreshLimits) ∧
      (s.gov.mode ≠ .unconfigured → (s.stand n).fault ≠ none →
        (m = none ∨ (s.gov.mode ≠ .running ∧ s.gov.mode ≠ .stopping)) →
        (∀ k, m = some k → ∀ x, (s.stand n).arm k = some x → x.remaining = 0) → m ≠ none →
        exec c s = .next (h.answered 0x3C tag .notReady []).refreshLimits) ∧
      (s.gov.mode ≠ .unconfigured → (s.stand n).fault ≠ none →
        (m = none ∨ (s.gov.mode ≠ .running ∧ s.gov.mode ≠ .stopping)) →
        (∀ k, m = some k → ∃ x, (s.stand n).arm k = some x ∧ 0 < x.remaining) →
        ∃ t : State,
          exec c s = .next (t.answered 0x3C tag .ok
            ([0] ++ encArmState (t.stand n).armA ++ encArmState (t.stand n).armB)).finish ∧
          t = { h with
            stands := t.stands, map := t.map, notices := t.notices, inbox := t.inbox, choice := t.choice } ∧
          (t.stand n).fault = none ∧ (t.stand n).breakFlag = false ∧ Ev.cleared n ∈ t.inbox ∧
          (∀ k : Stand, k ≠ n → t.stand k = s.stand k) ∧
          ∀ k, m = some k → (t.stand n).runsOn k = true ∧
            ((s.stand n).runsOn k = false → (t.stand n).runsOn (Arm.other k) = false))

/-! ### The Splice Sequencer -/

/-- PASTED moves a sequence from PASTE to CUT and CUT from CUT to TRANSFER, with their commands and stage timers; in any other stage,
or with no sequence, neither has an effect (R121, R122). -/
def Obligations.PastedAndCutAdvance : Prop :=
  ∀ (n : Stand) (s : State),
    let quiet : State := { s with inbox := [] }
    ((∀ q, (s.spl n).seq = some q → q.stage ≠ .paste) → exec (.pasted n) s = .next quiet.quietEnd) ∧
    ((∀ q, (s.spl n).seq = some q → q.stage ≠ .cut) → exec (.cutInput n) s = .next quiet.quietEnd) ∧
    ∀ q : Seq, (s.spl n).seq = some q →
      (q.stage = .paste → exec (.pasted n) s = .next (quiet.setSpl n
        { s.spl n with
          seq := some { q with stage := .cut, timer := some (s.standCfg n).tCut }, pasteCmd := none,
          cutCmd := true }).quietEnd) ∧
      (q.stage = .cut → exec (.cutInput n) s = .next (quiet.setSpl n
        { s.spl n with
          seq := some { q with stage := .transfer, timer := some (s.standCfg n).tTransfer },
          cutCmd := false }).quietEnd)

/-- The stage timer in TRANSFER completes the splice: the pasted roll is RUNNING, the roll it replaces EXPIRED, the failure count 0,
SPLICE_END is raised, and the stand takes up owed work first. Where the map has room, the board not yet past the knife of
[joint - GUARD_BEFORE, joint + SPLICE_LEN + GUARD_AFTER) is covered, and with a plan that between b and the joint, which goes into the
SPLICE_END with its start as clamped (log 22); the open MISMATCH span of the stand is closed (R103, R123, R124). In any other stage, or with
no sequence, the expiry has no effect: the model's choice (log 9). -/
def Obligations.TransferExpiryCompletes : Prop :=
  ∀ (n : Stand) (s : State),
    ((∀ q, (s.spl n).seq = some q → q.stage ≠ .transfer) →
      exec (.transferExpiry n) s = .next (State.quietEnd { s with inbox := [] })) ∧
    ∀ q : Seq, (s.spl n).seq = some q → q.stage = .transfer →
      ∃ (t : State) (l : List Ev) (d : SpliceEnd), exec (.transferExpiry n) s = .next t.finish ∧
        t = { s with
          stands := t.stands, splice := t.splice, map := t.map, regs := t.regs, notices := t.notices, inbox := t.inbox,
          choice := t.choice } ∧
        t.inbox = .owedWork n true :: l ∧ (t.spl n).seq = none ∧ (t.spl n).failures = 0 ∧
        (t.spl n).expiryHeld = false ∧ (t.spl n).pasteCmd = none ∧ (t.spl n).cutCmd = false ∧
        (t.spl n).last = some d ∧ d.outcome = .complete ∧ d.stand = n ∧ d.kind = q.kind ∧ d.joint = q.joint ∧
        (tget s.notices.levels (srcSpliceEnd n) ≠ 7 → tget t.notices.waiting (srcSpliceEnd n) = true) ∧
        (∀ x, (s.stand n).arm q.standby = some x →
          ∃ y, (t.stand n).arm q.standby = some y ∧ y.state = .running ∧ y.remaining = x.remaining) ∧
        (∀ x, (s.stand n).arm (Arm.other q.standby) = some x → x.state = .running →
          (t.stand n).arm (Arm.other q.standby) = some { x with state := .expired }) ∧
        (∀ k : Stand, k ≠ n → t.stand k = s.stand k ∧ t.spl k = s.spl k) ∧
        (t.spl n).mismatchOpen = false ∧
        ((s.spl n).mismatchOpen = true → s.SpansOk → ∀ sp ∈ t.map.spans, sp.openFor ≠ some (.stand n)) ∧
        (q.plan = none → d.mismatch = none) ∧
        ∀ j : Pos, q.joint = some j → s.cfg.geometry.isSome = true → s.map.spans.length < 47 → s.SpansOk →
          let c := s.standCfg n
          let ahead := fun lo hi x : Pos => isReached s.tracker.pos hi = false ∧
            isBelow s.tracker.pos x (clampStart s.tracker.pos lo) = false ∧ isBelow s.tracker.pos x hi = true
          (∀ x : Pos, ahead (j.minus c.guardBefore) ((j.plus c.spliceLen).plus c.guardAfter) x → t.covers x = true) ∧
          ∀ p : Plan, q.plan = some p →
            (p.b = j → d.mismatch = none) ∧
            ∀ lo hi x : Pos, (isBeyond p.b j = true ∧ lo = p.b ∧ hi = j) ∨ (isBeyond j p.b = true ∧ lo = j ∧ hi = p.b) →
              ahead lo hi x → t.covers x = true ∧ d.mismatch = some (clampStart s.tracker.pos lo, hi)

/-- A stage timer that runs out in PASTE spends the tape, counts a failure and keeps what the splice owed as a wait, the third one
faulting the stand; a MISMATCH span opened then goes into the SPLICE_END, its start as clamped and its reach (log 22); one that runs out
in CUT faults the stand, halts the line and keeps the plan as a wait (R124, R126, R128, R129). In any other stage neither has an effect:
the model's choice (log 9). -/
def Obligations.PasteFailAndCutFail : Prop :=
  ∀ (n : Stand) (s : State),
    let quiet : State := { s with inbox := [] }
    ((∀ q, (s.spl n).seq = some q → q.stage ≠ .paste) → exec (.pasteFail n) s = .next quiet.quietEnd) ∧
    ((∀ q, (s.spl n).seq = some q → q.stage ≠ .cut) → exec (.cutFail n) s = .next quiet.quietEnd) ∧
    ∀ q : Seq, (s.spl n).seq = some q →
      (q.stage = .paste →
        ∃ (t : State) (l : List Ev), exec (.pasteFail n) s = .next t.finish ∧
          t = { s with
            stands := t.stands, splice := t.splice, map := t.map, regs := t.regs, notices := t.notices,
            inbox := t.inbox, choice := t.choice } ∧
          (∀ k : Stand, k ≠ n → t.stand k = s.stand k ∧ t.spl k = s.spl k) ∧ t.inbox = .owedWork n true :: l ∧
          (t.spl n).seq = none ∧ (t.spl n).failures = min 3 ((s.spl n).failures + 1) ∧
          (∃ d, (t.spl n).last = some d ∧ d.outcome = .pasteFail) ∧
          (∀ x, (s.stand n).arm q.standby = some x → x.state = .ready →
            (t.stand n).arm q.standby = some { x with state := .loaded }) ∧
          (t.stand n).fault = (if 2 ≤ (s.spl n).failures then some ((s.stand n).fault.getD .pasteLimit)
            else (s.stand n).fault) ∧
          (q.kind = .expiry → (t.spl n).wait = .expiry) ∧
          (∀ p, q.kind ≠ .expiry → q.plan = some p → (t.spl n).wait = .plan p ∧ (t.spl n).mismatchOpen = true) ∧
          ∀ p, q.kind ≠ .expiry → q.plan = some p → (s.spl n).mismatchOpen = false → s.cfg.geometry.isSome = true →
            s.openSpanOf (.stand n) = none → s.map.spans.length < 48 →
            ∃ d, (t.spl n).last = some d ∧
              d.mismatch = some (clampStart s.tracker.pos p.b, s.tracker.pos.plus (s.dStand n))) ∧
      (q.stage = .cut →
        ∃ (t : State) (l : List Ev), exec (.cutFail n) s = .next t.finish ∧
          t = { s with
            stands := t.stands, splice := t.splice, map := t.map, regs := t.regs, notices := t.notices,
            inbox := t.inbox, choice := t.choice } ∧
          (∀ k : Stand, k ≠ n → t.stand k = s.stand k ∧ t.spl k = s.spl k) ∧ t.inbox = .owedWork n true :: l ∧
          Ev.halt n .cutFail ∈ t.inbox ∧ (t.spl n).seq = none ∧ (t.spl n).mismatchOpen = false ∧
          (∃ d, (t.spl n).last = some d ∧ d.outcome = .cutFail) ∧
          (t.stand n).fault = some ((s.stand n).fault.getD .cutFail) ∧
          (∀ p, q.plan = some p → (t.spl n).wait = .plan p) ∧
          (s.cfg.geometry.isSome = true → s.map.spans.length < 48 →
            ∃ sp ∈ t.map.spans, sp.openFor = some (.stand n)))

/-- SPLICE_NOW: the checks in their order, and a NOW sequence of what the board at the stand requires, triggered at once and in PASTE
where the paste-start test holds (R117, R119, R120, R121, R133; a wait EXPIRY is held while it runs, log 37; a stand
outside 1..7 is BAD_VALUE in every mode, the model's choice, log 48). -/
def Obligations.SpliceNowStartsSplice : Prop :=
  ∀ (tag : Byte) (s : State),
    let h := s.heard 0x40 tag
    (∀ k : Nat, ¬(1 ≤ k ∧ k ≤ 7) →
      exec (.spliceNow tag k) s = .next (h.answered 0x40 tag .badValue []).refreshLimits) ∧
    ∀ n : Stand,
      let c : Instr := .spliceNow tag (Stand.number n)
      let busy := (s.spl n).seq.isSome = true ∨ ∃ p, (s.spl n).wait = .plan p
      let needs := s.boardNeeds n
      (s.gov.mode ≠ .running ∨ (s.stand n).fault ≠ none →
        exec c s = .next (h.answered 0x40 tag .wrongMode []).refreshLimits) ∧
      (s.gov.mode = .running → (s.stand n).fault = none → busy →
        exec c s = .next (h.answered 0x40 tag .busy []).refreshLimits) ∧
      (s.gov.mode = .running → (s.stand n).fault = none → ¬busy → s.isReady n needs.1 needs.2 = false →
        exec c s = .next (h.answered 0x40 tag .notReady []).refreshLimits) ∧
      ∀ (m : Arm) (x : Roll), s.gov.mode = .running → (s.stand n).fault = none → ¬busy →
        s.isReady n needs.1 needs.2 = true → (s.stand n).standby = some m → (s.stand n).arm m = some x →
        let now := decide (s.tracker.measured ≤ s.govCfg.spliceSpeed)
        let q : Seq :=
          { kind := .now, plan := none, required := needs.1, widthOrder := needs.2, point := none,
            stage := if now then .paste else .armed, triggered := !now, approach := true, cancelReq := false,
            timer := if now then some (s.standCfg n).tPaste else none, standby := m,
            joint := if now then some (s.tracker.pos.plus (s.dStand n)) else none, route := none }
        exec c s = .next
          ((({ h with regs := (s.regs.put (.approach n) none).put (.spliceTrigger n) none } : State).setSpl n
            { s.spl n with
              seq := some q, pasteCmd := if now then some m else (s.spl n).pasteCmd, wait := .none,
              expiryHeld := (s.spl n).expiryHeld || decide ((s.spl n).wait = .expiry) }).answered 0x40 tag .ok
            (u8 (n.val + 1) ++ u8 (Arm.code m) ++ u32 x.spec.id)).refreshLimits

/-- CANCEL_SPLICE ends a sequence in ARMED as ABORTED and keeps what it owed as a wait; in a later stage it only sets the cancel
flag; a wait EXPIRY or a held expiry is dropped; a wait PLAN or a pending plan is IN_USE (R134; the reply's form is the model's choice,
log 37, and so is BAD_VALUE before WRONG_MODE for a stand outside 1..7, log 48). -/
def Obligations.CancelSpliceByStage : Prop :=
  ∀ (tag : Byte) (s : State),
    let h := s.heard 0x41 tag
    (∀ k : Nat, ¬(1 ≤ k ∧ k ≤ 7) →
      exec (.cancelSplice tag k) s = .next (h.answered 0x41 tag .badValue []).refreshLimits) ∧
    ∀ n : Stand,
      let c : Instr := .cancelSplice tag (Stand.number n)
      let r := s.spl n
      (s.gov.mode = .unconfigured → exec c s = .next (h.answered 0x41 tag .wrongMode []).refreshLimits) ∧
      (s.gov.mode ≠ .unconfigured →
        (∀ q : Seq, r.seq = some q → q.stage ≠ .armed →
          exec c s = .next ((h.setSpl n { r with seq := some { q with cancelReq := true } }).answered 0x41 tag .ok
            [1, BitVec.ofNat 8 (Stage.code q.stage), 0]).refreshLimits) ∧
        (∀ q : Seq, r.seq = some q → q.stage = .armed →
          ∃ (t : State) (l : List Ev), exec c s = .next (t.answered 0x41 tag .ok [1, 0, 1]).finish ∧
            t = { h with
              splice := t.splice, map := t.map, regs := t.regs, notices := t.notices, inbox := t.inbox,
              choice := t.choice } ∧ (∀ k : Stand, k ≠ n → t.spl k = s.spl k) ∧
            t.inbox = .owedWork n false :: l ∧ (t.spl n).seq = none ∧
            (∃ d, (t.spl n).last = some d ∧ d.outcome = .aborted) ∧
            (q.kind = .expiry → (t.spl n).wait = .expiry) ∧
            ∀ p, q.kind ≠ .expiry → q.plan = some p → (t.spl n).wait = .plan p ∧ (t.spl n).mismatchOpen = true) ∧
        (r.seq = none → r.wait = .expiry →
          exec c s = .next ((h.setSpl n { r with wait := .none }).answered 0x41 tag .ok [0, 0]).refreshLimits) ∧
        (∀ p : Plan, r.seq = none → r.wait = .plan p →
          exec c s = .next (h.answered 0x41 tag .inUse []).refreshLimits) ∧
        (r.seq = none → r.wait = .none → r.expiryHeld = true →
          exec c s = .next ((h.setSpl n { r with expiryHeld := false }).answered 0x41 tag .ok [0, 0]).refreshLimits) ∧
        (r.seq = none → r.wait = .none → r.expiryHeld = false →
          exec c s = .next (h.answered 0x41 tag (if r.pendingPlan.isSome then .inUse else .notFound)
            []).refreshLimits))

/-! ### The scanner, the supply header and the zones -/

/-- A completed conversion forms its channel's record from the raw result and the channel's scaling, moves the pointer on and starts
the next conversion; with none in flight it has no effect (R137, R138; the second is the model's choice, log 9). -/
def Obligations.ConversionFormsRecord : Prop :=
  ∀ (raw : Raw) (s : State),
    (s.scanner.conversion = none →
      exec (.conversionComplete raw) s = .next (State.quietEnd { s with inbox := [] })) ∧
    (s.scanner.conversion ≠ none →
      let c := s.scanner.pointer
      let scale := tget s.zonesCfg.channels c
      ∃ t : State, exec (.conversionComplete raw) s = .next t.finish ∧
        t = { s with
          scanner := t.scanner, heat := t.heat, glue := t.glue, map := t.map, notices := t.notices, inbox := t.inbox,
          choice := t.choice } ∧
        t.heat = { s.heat with zones := t.heat.zones, slow := t.heat.slow } ∧ t.glue.motion = s.glue.motion ∧
        (∀ z : Zone, zoneChannel z ≠ c → t.zone z = s.zone z) ∧
        (∀ u : GlueUnit, unitChannel u ≠ c → t.unit u = s.unit u) ∧ t.scanner.pointer = c + 1 ∧
        t.scanner.conversion = some ((256 - s.zonesCfg.scanDiv) * 8) ∧
        t.reading c = some { raw := raw, value := scale.lo + Int.tdiv ((raw.toNat : Int) * (scale.hi - scale.lo)) 4095,
                             bad := decide (raw.toNat = 0 ∨ raw.toNat = 4095) } ∧
        ∀ k : Channel, k ≠ c → t.reading k = s.reading k)

/-- SET_SUPPLY, the PRESSURE OK input and the settle timer move the supply header by its state; at each change of the header to a state
other than READY every enabled zone waits for the supply (R140, R141, R142). A settle expiry outside SETTLING has no effect (log 9), a
PRESSURE OK level repeated is taken by the same rule again (log 35), and a value out of range is BAD_VALUE in UNCONFIGURED too (log 48): the
model's choices. -/
def Obligations.SupplyHeaderMoves : Prop :=
  (∀ (tag : Byte) (s : State),
    (∀ k : Nat, 2 ≤ k →
      exec (.setSupply tag k) s = .next ((s.heard 0x48 tag).answered 0x48 tag .badValue []).refreshLimits) ∧
    (∀ k : Nat, k < 2 → s.gov.mode = .unconfigured →
      exec (.setSupply tag k) s = .next ((s.heard 0x48 tag).answered 0x48 tag .wrongMode []).refreshLimits) ∧
    (s.gov.mode ≠ .unconfigured → s.heat.header ≠ .off →
      exec (.setSupply tag 1) s = .next
        ((s.heard 0x48 tag).answered 0x48 tag .ok (u8 (Header.code s.heat.header))).refreshLimits) ∧
    (s.gov.mode ≠ .unconfigured → s.heat.header = .off →
      ∃ t : State, exec (.setSupply tag 1) s =
          .next (t.answered 0x48 tag .ok (u8 (Header.code t.heat.header))).finish ∧
        t = { s.heard 0x48 tag with heat := t.heat, map := t.map, notices := t.notices, inbox := t.inbox, choice := t.choice } ∧
        t.heat.header = (if s.heat.pressureOk then .settling else .lost) ∧
        t.heat.settle = (if s.heat.pressureOk then some s.zonesCfg.supplySettle else none) ∧
        ∀ z : Zone, (s.zone z).enabled = true → (t.zone z).state = .waitingSupply) ∧
    (s.gov.mode ≠ .unconfigured →
      ∃ t : State, exec (.setSupply tag 0) s = .next (t.answered 0x48 tag .ok [0]).finish ∧
        t = { s.heard 0x48 tag with heat := t.heat, map := t.map, notices := t.notices, inbox := t.inbox, choice := t.choice } ∧
        t.heat.header = .off ∧ t.heat.settle = none ∧
        (s.heat.header ≠ .off → ∀ z : Zone, (s.zone z).enabled = true → (t.zone z).state = .waitingSupply))) ∧
  (∀ (ok : Bool) (s : State),
    ∃ t : State, exec (.pressureOkChange ok) s = .next t.finish ∧
      t = { s with heat := t.heat, map := t.map, notices := t.notices, inbox := t.inbox, choice := t.choice } ∧
      t.heat.pressureOk = ok ∧
      t.heat.header =
        (if ok = true ∧ s.heat.header = .lost then .settling
        else if ok = false ∧ (s.heat.header = .settling ∨ s.heat.header = .ready) then .lost
        else s.heat.header) ∧
      t.heat.settle =
        (if ok = true ∧ s.heat.header = .lost then some s.zonesCfg.supplySettle
        else if ok = false ∧ (s.heat.header = .settling ∨ s.heat.header = .ready) then none
        else s.heat.settle) ∧
      (t.heat.header ≠ s.heat.header → ∀ z : Zone, (s.zone z).enabled = true → (t.zone z).state = .waitingSupply)) ∧
  ∀ s : State,
    (s.heat.header ≠ .settling → exec .settleExpiry s = .next (State.quietEnd { s with inbox := [] })) ∧
    (s.heat.header = .settling →
      ∃ t : State, exec .settleExpiry s = .next t.finish ∧
        t = { s with heat := t.heat, map := t.map, notices := t.notices, inbox := t.inbox, choice := t.choice } ∧
        t.heat.header = .ready ∧ t.heat.settle = none ∧
        ∀ z : Zone, (s.zone z).enabled = true → s.reading (zoneChannel z) = none → (t.zone z).state = .noReading)

/-- At the zone period every zone's output follows its state: 0 where it cannot heat or is not required, the held value while a probe
fault is held, feed-forward alone without a reading, and feed-forward, proportional and integral together with a reading, each held in
its range (R143, R144, R145, R146). -/
def Obligations.ZonePeriodSetsOutputs : Prop :=
  ∀ s : State,
    ∃ zs : Vector ZoneRec 12,
      exec .zonePeriodExpiry s = .next (State.quietEnd { s with inbox := [], heat := { s.heat with zones := zs } }) ∧
      ∀ z : Zone,
        let r := s.zone z
        let x := tget zs z
        let ff := fun a : ZoneRecipe => Int.tdiv ((a.base : Int) * s.gov.reference) 4500
        let heats := r.state = .below ∨ r.state = .inWindow ∨ r.state = .above
        let feeds := r.state = .noReading ∨ (r.state = .probeFault ∧ ∀ v t, r.hold ≠ .holding v t)
        x = { r with output := x.output, integral := x.integral } ∧
        (¬heats → x.integral = r.integral) ∧
        (r.state = .off ∨ r.state = .waitingSupply → x.output = 0) ∧
        (∀ v t, r.state = .probeFault → r.hold = .holding v t → x.output = v) ∧
        (feeds → ∀ a, r.active = some a → 0 < a.setpoint → (x.output : Int) = max 0 (min 1000 (ff a))) ∧
        (feeds ∨ heats → (r.active = none ∨ ∃ a, r.active = some a ∧ a.setpoint = 0) → x.output = 0) ∧
        (heats → ∀ a y, r.active = some a → 0 < a.setpoint → s.reading (zoneChannel z) = some y →
          let e := (a.setpoint : Int) - y.value
          let prop := Int.tdiv (((tget s.zonesCfg.gains z).kp : Int) * e) 64
          let di := Int.tdiv (((tget s.zonesCfg.gains z).ki : Int) * e) 64
          let u := ff a + prop + r.integral
          x.integral = (if (1000 ≤ u ∧ 0 < di) ∨ (u ≤ 0 ∧ di < 0) then max (-1000) (min 1000 r.integral)
            else max (-1000) (min 1000 (r.integral + di))) ∧
          (x.output : Int) = max 0 (min 1000 (ff a + prop + x.integral)))

/-- ENABLE_ZONE makes the zone find its state under its new setting, under a READY header by its reading and its band (a repeat changes
nothing); the window byte of the reply is 0 for in, the model's choice, log 50;
the hold timer's expiry leaves feed-forward alone, and the below timer's expiry sets the heat-slow
flag and with it the HEAT limit (R142, R146, R151, R152). With no hold or no below timer running these expiries have no effect (log 9),
and a zone or value out of range is BAD_VALUE in UNCONFIGURED too (log 48): the model's choices. -/
def Obligations.ZoneEnableHoldAndBelow : Prop :=
  (∀ (tag : Byte) (s : State),
    (∀ k x : Nat, 12 ≤ k ∨ 2 ≤ x →
      exec (.enableZone tag k x) s = .next ((s.heard 0x49 tag).answered 0x49 tag .badValue []).refreshLimits) ∧
    ∀ (z : Zone) (on : Bool),
      let c : Instr := .enableZone tag z.val (if on then 1 else 0)
      (s.gov.mode = .unconfigured →
        exec c s = .next ((s.heard 0x49 tag).answered 0x49 tag .wrongMode []).refreshLimits) ∧
      (s.gov.mode ≠ .unconfigured →
        ∃ t : State,
          exec c s = .next (t.answered 0x49 tag .ok
            (u8 (ZoneState.code (t.zone z).state) ++ encBool (!(t.zone z).window))).finish ∧
          t = { s.heard 0x49 tag with
            heat := { s.heat with zones := t.heat.zones, slow := t.heat.slow }, map := t.map, notices := t.notices,
            inbox := t.inbox, choice := t.choice } ∧
          (t.zone z).enabled = on ∧ ((s.zone z).enabled = on → t = s.heard 0x49 tag) ∧
          ((s.zone z).enabled ≠ on → on = false → (t.zone z).state = .off) ∧
          ((s.zone z).enabled ≠ on → on = true → s.heat.header ≠ .ready → (t.zone z).state = .waitingSupply) ∧
          ((s.zone z).enabled ≠ on → on = true → s.heat.header = .ready →
            (s.reading (zoneChannel z) = none → (t.zone z).state = .noReading) ∧
            ∀ x, s.reading (zoneChannel z) = some x →
              (x.bad = true → (t.zone z).state = .probeFault) ∧
              (x.bad = false → (s.zone z).required = false → (t.zone z).state = .inWindow) ∧
              ∀ a, x.bad = false → (s.zone z).required = true → (s.zone z).active = some a →
                (t.zone z).state = (if x.value < (a.setpoint : Int) - a.low then .below
                  else if (a.setpoint : Int) + a.high < x.value then .above else .inWindow)) ∧
          ∀ k : Zone, k ≠ z → t.zone k = s.zone k)) ∧
  ∀ (z : Zone) (s : State),
    let quiet : State := { s with inbox := [] }
    ((∀ v t, (s.zone z).hold ≠ .holding v t) → exec (.holdExpiry z) s = .next quiet.quietEnd) ∧
    (∀ v t, (s.zone z).hold = .holding v t →
      exec (.holdExpiry z) s = .next (quiet.setZone z { s.zone z with hold := .ffOnly }).quietEnd) ∧
    ((∀ t, (s.zone z).below ≠ .running t) → exec (.belowTimerExpiry z) s = .next quiet.quietEnd) ∧
    ∀ k, (s.zone z).below = .running k →
      ∃ t : State, exec (.belowTimerExpiry z) s = .next t ∧
        t = { quiet with
          heat := { s.heat with zones := t.heat.zones, slow := true }, limits := t.limits, notices := t.notices,
          link := t.link } ∧
        t.zone z = { s.zone z with below := .expired } ∧
        t.heat.slow = true ∧ (∀ y : Zone, y ≠ z → t.zone y = s.zone y) ∧
        (s.gov.mode ≠ .unconfigured → t.limits.heat = some s.zonesCfg.heatSlow)

/-! ### The Glue Units -/

/-- A unit's target gap at the reference in force is the gap of its first or last breakpoint outside their speeds, and the truncated
interpolation between neighbours inside them, clamped to GAP_MIN..GAP_MAX; a unit with no active recipe has none (R158). A unit that
computes its target records it in every unit state (R159; that it does so in FAULT too is the model's reading, log 26). -/
def Obligations.TargetGapInterpolates : Prop :=
  ∀ (s : State) (g : GlueRecipe), (∀ i j : Fin 4, i < j → (tget g i).speed < (tget g j).speed) →
    let v := s.gov.reference
    let clamp := fun x : Int => (max (s.zonesCfg.gapMin : Int) (min s.zonesCfg.gapMax x)).toNat
    (v < (tget g 0).speed → s.targetGap g = clamp (tget g 0).gap) ∧
    ((tget g 3).speed ≤ v → s.targetGap g = clamp (tget g 3).gap) ∧
    (∀ i : Fin 3,
      let lo := tget g i.castSucc
      let hi := tget g i.succ
      lo.speed ≤ v → v < hi.speed →
        s.targetGap g = clamp ((lo.gap : Int) +
          Int.tdiv (((hi.gap : Int) - lo.gap) * ((v : Int) - lo.speed)) ((hi.speed : Int) - lo.speed)) ∧
        (v = lo.speed → s.targetGap g = clamp lo.gap)) ∧
    ∀ u : GlueUnit,
      ((s.unit u).active = none → State.computeTarget u s = s) ∧
      ((s.unit u).active = some g → s.gov.mode ≠ .unconfigured →
        ((State.computeTarget u s).unit u).target = some (s.targetGap g))

/-- ARRIVED ends a move: the roll stays applied, or is applied at once where the reapply test holds, or is LIFTED; the move timer's
expiry makes FAULT with the roll lifted; CLEAR_GLUE makes LIFTED with its gap unconfirmed (R160, R162, R167). Outside MOVING neither
ARRIVED nor the expiry has an effect, the latter by the model's choice (log 9). A unit code outside 1..4 is BAD_VALUE in every mode
(log 48). -/
def Obligations.GlueMovesEndOrFault : Prop :=
  (∀ (u : GlueUnit) (s : State),
    let r := s.unit u
    let quiet : State := { s with inbox := [] }
    let applies := r.applied = true ∨ (s.gov.mode = .running ∧ s.govCfg.glueLift + 50 ≤ s.tracker.measured)
    (r.state ≠ .moving →
      exec (.arrived u) s = .next quiet.quietEnd ∧ exec (.moveTimerExpiry u) s = .next quiet.quietEnd) ∧
    (r.state = .moving →
      (∃ t : State, exec (.arrived u) s = .next t.finish ∧
        t = { s with
          glue := { s.glue with units := t.glue.units }, map := t.map, notices := t.notices, inbox := t.inbox,
          choice := t.choice } ∧
        (∀ k : GlueUnit, k ≠ u → t.unit k = s.unit k) ∧
        t.unit u = { r with
          state := if applies then .applying else .lifted, applied := decide applies, confirmed := true, timer := none,
          window := (t.unit u).window }) ∧
      ∃ t : State, exec (.moveTimerExpiry u) s = .next t.finish ∧
        t = { s with
          glue := { s.glue with units := t.glue.units }, map := t.map, notices := t.notices, inbox := t.inbox,
          choice := t.choice } ∧
        (∀ k : GlueUnit, k ≠ u → t.unit k = s.unit k) ∧
        t.unit u = { r with state := .fault, applied := false, timer := none, window := (t.unit u).window })) ∧
  ∀ (tag : Byte) (s : State),
    let h := s.heard 0x50 tag
    (∀ k : Nat, ¬(1 ≤ k ∧ k ≤ 4) →
      exec (.clearGlue tag k) s = .next (h.answered 0x50 tag .badValue []).refreshLimits) ∧
    ∀ u : GlueUnit,
      (s.gov.mode = .unconfigured ∨ (s.unit u).state ≠ .fault →
        exec (.clearGlue tag (GlueUnit.number u)) s = .next (h.answered 0x50 tag .wrongMode []).refreshLimits) ∧
      (s.gov.mode ≠ .unconfigured → (s.unit u).state = .fault →
        ∃ t : State,
          exec (.clearGlue tag (GlueUnit.number u)) s =
            .next (t.answered 0x50 tag .ok (u8 (u.val + 1) ++ [3])).finish ∧
          t = { h with
            glue := { s.glue with units := t.glue.units }, map := t.map, notices := t.notices, inbox := t.inbox,
            choice := t.choice } ∧
          t.unit u = { s.unit u with state := .lifted, confirmed := false, window := (t.unit u).window } ∧
          ∀ k : GlueUnit, k ≠ u → t.unit k = s.unit k)

/-! ### The Speed Governor -/

/-- CONFIGURE: the checks of the section code, the mode and the held state come before those of the fields; a section that passes
replaces the one in force, and the fifth one leaves UNCONFIGURED for STOPPED, or ESTOPPED where the line is asserted; of the knife's
limit only DRYEND brings a recomputation (R58, R172, R175), with the CPM in force and the WASTE_LEN that applies at the knife and not that
of the section, which is how the model reads 'in force' of R57 (log 18). -/
def Obligations.ConfigureChecksAndApplies : Prop :=
  ∀ (tag : Byte) (sec : Section) (s : State),
    let h := s.heard 0x01 tag
    let c : Instr := .configure tag sec
    let refused := fun st : Status => exec c s = .next (h.answered 0x01 tag st []).refreshLimits
    let atRest := s.gov.mode = .unconfigured ∨ s.gov.mode = .stopped
    (∀ st, s.sectionCheck sec = some st → refused st) ∧
    (∀ k, sec = .other k → refused .badValue) ∧
    (∀ g, sec = .geometry g →
      (¬atRest → refused .wrongMode) ∧
      (atRest → s.book.orders ≠ [] ∨ s.map.spans ≠ [] → refused .inUse)) ∧
    (((∃ v, sec = .stands v) ∨ ∃ d, sec = .dryend d) → ¬atRest → refused .wrongMode) ∧
    (((∃ z, sec = .zones z) ∨ ∃ g, sec = .governor g) → s.gov.mode = .estopped → refused .wrongMode) ∧
    (s.sectionCheck sec = none →
      ∃ t : State,
        exec c s = .next (t.answered 0x01 tag .ok
          (encList u8 t.cfg.accepted ++ u8 (Mode.code t.gov.mode))).finish ∧
        t = { h with
          cfg := t.cfg, gov := t.gov, cutoff := t.cutoff, stands := t.stands, scanner := t.scanner, map := t.map,
          notices := t.notices, inbox := t.inbox, choice := t.choice } ∧
        t.cutoff = (match sec with
          | .dryend _ => { s.cutoff with limitCpm := s.cpm, limitWaste := s.cutoff.wasteLen }
          | _ => s.cutoff) ∧
        t.cfg = (match sec with
          | .geometry g => { s.cfg with geometry := some g }
          | .stands v => { s.cfg with stands := some v }
          | .dryend d => { s.cfg with dryend := some d }
          | .zones z => { s.cfg with zones := some z }
          | .governor g => { s.cfg with governor := some g }
          | .other _ => s.cfg) ∧
        (s.gov.mode ≠ .unconfigured ∨ t.cfg.accepted.length < 5 → t.gov = s.gov) ∧
        (s.gov.mode = .unconfigured → t.cfg.accepted.length = 5 →
          t.gov.mode = (if s.gov.estopLine then .estopped else .stopped) ∧
          Ev.modeEntry .unconfigured .stopped ∈ t.inbox ∧
          (s.gov.estopLine = true → Ev.modeEntry .stopped .estopped ∈ t.inbox)))

/-- RUN enters RUNNING from STOPPED when every stand has a RUNNING roll, no station is in FAULT and the stacker is not BLOCKED, and
names what fails otherwise; SET_SPEED holds REQUESTED, clamped to 4,500 (R177, R179). -/
def Obligations.RunAndSetSpeed : Prop :=
  ∀ (tag : Byte) (s : State),
    let h := s.heard 0x02 tag
    let ready := (∀ n : Stand, (s.stand n).running.isSome = true) ∧ s.stationState .a ≠ .fault ∧
      s.stationState .b ≠ .fault ∧ s.stacker.mode ≠ .blocked
    (s.gov.mode ≠ .stopped → exec (.run tag) s = .next (h.answered 0x02 tag .wrongMode []).refreshLimits) ∧
    (s.gov.mode = .stopped → ¬ready →
      exec (.run tag) s = .next (h.replied 0x02 tag
        { status := .notReady,
          fields := [.list ((allStands.filter (fun n => (s.stand n).running.isNone)).map (fun n => u8 (n.val + 1))),
                     .list (([Station.a, Station.b].filter (fun st => decide (s.stationState st = .fault))).map
                       (fun st => u8 (Station.code st))),
                     .raw (encBool (decide (s.stacker.mode = .blocked)))] }).refreshLimits) ∧
    (s.gov.mode = .stopped → ready →
      exec (.run tag) s = .next (State.finish (State.answered
        { h with
          gov := { s.gov with mode := .running, runOut := false, modeEntries := (s.gov.modeEntries + 1) % 256 },
          inbox := [.modeEntry .stopped .running], notices := s.notices.markChanged srcLineMode }
        0x02 tag .ok []))) ∧
    ∀ v : Nat, exec (.setSpeed tag v) s = .next
      (({ s.heard 0x04 tag with limits := { s.limits with requested := min 4500 v } } : State).answered 0x04 tag .ok
        (u16 (min 4500 v))).refreshLimits

/-- STOP in RUNNING enters STOPPING with the fast flag clear; in STOPPING it changes nothing, so a fast stop stays fast; in every
other mode it is WRONG_MODE (R178). -/
def Obligations.StopEntersStopping : Prop :=
  ∀ (tag : Byte) (s : State),
    let h := s.heard 0x03 tag
    (s.gov.mode = .running →
      exec (.stop tag) s = .next (State.finish (State.answered
        { h with
          gov := { s.gov with
            mode := .stopping, fast := false, runOut := false, modeEntries := (s.gov.modeEntries + 1) % 256 },
          inbox := [.modeEntry .running .stopping], notices := s.notices.markChanged srcLineMode }
        0x03 tag .ok []))) ∧
    (s.gov.mode = .stopping → exec (.stop tag) s = .next (h.answered 0x03 tag .ok []).refreshLimits) ∧
    (s.gov.mode ≠ .running → s.gov.mode ≠ .stopping →
      exec (.stop tag) s = .next (h.answered 0x03 tag .wrongMode []).refreshLimits)

/-- The ESTOP line: an assertion enters ESTOPPED from every configured mode with the reference 0 at once, and keeps a halt owed; in
UNCONFIGURED and ESTOPPED it is recorded alone; a release changes no mode; RESUME leaves HALTED, and ESTOPPED with the line released,
for STOPPED, or HALTED where a halt is owed; an assertion that enters ESTOPPED adds the STOP span, which covers the board from E to
E + D_WET and goes into the ESTOP event as the map then holds it (R19, R184, R185). -/
def Obligations.EstopAndResume : Prop :=
  ∀ (tag : Byte) (s : State),
    let quiet : State := { s with inbox := [] }
    let h := s.heard 0x05 tag
    let entered := fun (g : Governor) (m : Mode) =>
      ({ g with mode := m, runOut := false, modeEntries := (g.modeEntries + 1) % 256 } : Governor)
    (s.gov.mode = .unconfigured →
      exec .estopAssert s = .next (State.quietEnd { quiet with
        gov := { s.gov with estopLine := true },
        notices := s.notices.occur srcEstop (.estop s.tracker.pos .unconfigured none) })) ∧
    (s.gov.mode = .estopped →
      exec .estopAssert s = .next (State.quietEnd { quiet with gov := { s.gov with estopLine := true } })) ∧
    (s.gov.mode ≠ .unconfigured → s.gov.mode ≠ .estopped →
      ∃ (t u : State) (sp : Option Span), exec .estopAssert s = .next t.finish ∧
        (u, sp) = ({ s with
          gov := entered { s.gov with
            estopLine := true, reference := 0, fast := false,
            haltOwed := s.gov.haltOwed ||
              decide (s.gov.mode = .halted ∨ (s.gov.mode = .stopping ∧ s.gov.fast = true)) } .estopped,
          notices := s.notices.markChanged srcLineMode, inbox := [.modeEntry s.gov.mode .estopped] } :
          State).addSpanTell .stop .estop s.tracker.pos (s.tracker.pos.plus s.dWet) ∧
        t = u.raise srcEstop (.estop s.tracker.pos s.gov.mode (sp.map u.viewOf)) ∧
        t = { s with gov := t.gov, map := t.map, notices := t.notices, inbox := t.inbox, choice := t.choice } ∧
        tget t.notices.waiting srcEstop = true ∧
        (s.cfg.geometry.isSome = true → s.dWet < 2147483648 →
          ∀ p : Pos, (p - s.tracker.pos).toNat < s.dWet → t.covers p = true)) ∧
    exec .estopRelease s = .next (State.quietEnd { quiet with gov := { s.gov with estopLine := false } }) ∧
    (s.gov.mode = .halted →
      exec (.resume tag) s = .next (State.finish (State.answered
        { h with
          gov := entered { s.gov with haltRecord := none } .stopped, inbox := [.modeEntry .halted .stopped],
          notices := s.notices.markChanged srcLineMode } 0x05 tag .ok [1]))) ∧
    (s.gov.mode = .estopped → s.gov.estopLine = false → s.gov.haltOwed = false →
      exec (.resume tag) s = .next (State.finish (State.answered
        { h with
          gov := entered s.gov .stopped, inbox := [.modeEntry .estopped .stopped],
          notices := s.notices.markChanged srcLineMode } 0x05 tag .ok [1]))) ∧
    (s.gov.mode = .estopped → s.gov.estopLine = false → s.gov.haltOwed = true →
      exec (.resume tag) s = .next (State.finish (State.answered
        { h with
          gov := entered (entered { s.gov with haltOwed := false } .stopped) .halted,
          inbox := [.modeEntry .estopped .stopped, .modeEntry .stopped .halted],
          notices := s.notices.markChanged srcLineMode } 0x05 tag .ok [4]))) ∧
    (s.gov.mode ≠ .halted → ¬(s.gov.mode = .estopped ∧ s.gov.estopLine = false) →
      exec (.resume tag) s = .next
        (h.answered 0x05 tag .notReady (u8 (Mode.code s.gov.mode))).refreshLimits)

/-! ### The Line Link -/

/-- A frame reads back from its bytes: received one by one from HUNTING, with room in the queue and a request in hand, they leave the
receiver HUNTING and the frame at the end of the queue (R189, R191). -/
def Obligations.FrameBytesReceivedAsSent : Prop :=
  ∀ (f : Frame) (s : State), f.payload.length ≤ 1024 → s.link.rxState = .hunting → s.link.inHand.isSome = true →
    s.link.queue.length < 4 →
    f.wire.foldl (fun (t : State) (b : Byte) => t.takeByte b true) s =
      { s with
        link := { s.link with rxState := .hunting, rxBytes := [], queue := s.link.queue ++ [f] } }

/-- The frame of a well-formed request spells its command: it is read back whole, and handed over by the link it does what the
command does (R192, R193). -/
def Obligations.RequestFrameSpellsCommand : Prop :=
  ∀ (i : Instr) (f : Frame), i.wf = true → encodeRequest i = some f →
    decodeRequest f = .ok i ∧
      ∀ s : State, exec i s = .next (State.finish (State.handle { s with inbox := [] } (.request f)))

/-- A byte received goes through the receiver's states: the lead byte, the header, the payload, the check; a frame is discarded with a
LINK event at a low stop bit, at a length above 1,024, at a check that does not agree, and at the gap timer; at the length and the check
the bytes after its lead byte are taken again, in the same step (log 31); a good frame joins a queue with room and is an OVERRUN otherwise
(R188, R189, R190, R191). That a gap timer's expiry in HUNTING has no effect is the model's choice
(log 9), and that a frame which finds no request in hand is served in the step of its last byte is the model's reading (log 11). -/
def Obligations.ByteReceivedAndGap : Prop :=
  ∀ (b : Byte) (s : State),
    let quiet : State := { s with inbox := [] }
    let all := s.link.rxBytes ++ [b]
    let n := frameLength all
    let goesTo := fun (st : RxState) (bs : List Byte) =>
      exec (.byteReceived b true) s = .next (quiet.setRx st bs).quietEnd
    let dropped := fun cause : LinkCause =>
      (quiet.setRx .hunting []).raise srcLink (.link cause all[3]? all[4]?)
    let lost := fun cause : LinkCause =>
      ((quiet.setRx .hunting []).raise srcLink
        (.link cause (s.link.rxBytes[3]?) (s.link.rxBytes[4]?))).quietEnd
    (s.link.rxState = .hunting →
      exec (.byteReceived b false) s = .next quiet.quietEnd ∧ exec .gapTimerExpiry s = .next quiet.quietEnd ∧
      (if b = 0x5A#8 then goesTo .header [b] else goesTo .hunting [])) ∧
    (s.link.rxState ≠ .hunting →
      exec (.byteReceived b false) s = .next (lost .framing) ∧ exec .gapTimerExpiry s = .next (lost .gap)) ∧
    (s.link.rxState = .header → all.length ≠ 5 → ¬(all.length = 3 ∧ 1024 < n) → goesTo .header all) ∧
    (s.link.rxState = .header → all.length = 5 → if n = 0 then goesTo .check all else goesTo .payload all) ∧
    (s.link.rxState = .payload → if all.length = 5 + n then goesTo .check all else goesTo .payload all) ∧
    (s.link.rxState = .check → all.length ≠ 7 + n → goesTo .check all) ∧
    (∀ cause : LinkCause,
      (s.link.rxState = .header ∧ all.length = 3 ∧ 1024 < n ∧ cause = .length) ∨
        (s.link.rxState = .check ∧ all.length = 7 + n ∧ checkAgrees all = false ∧ cause = .check) →
      let t := State.receive (s.rxFuel - 1) (all.drop 1) (dropped cause)
      exec (.byteReceived b true) s = .next t.finish ∧
        t = { s with link := t.link, notices := t.notices, inbox := t.inbox } ∧
        (dropped cause).link.queue = s.link.queue ∧
        (tget s.notices.levels srcLink ≠ 7 → tget t.notices.waiting srcLink = true)) ∧
    (s.link.rxState = .check → all.length = 7 + n → checkAgrees all = true →
      (4 ≤ s.link.queue.length →
        exec (.byteReceived b true) s = .next ((quiet.setRx .hunting []).raise srcLink
          (.link .overrun (some (frameOf all).kind) (some (frameOf all).tag))).quietEnd) ∧
      (s.link.queue.length < 4 →
        ∃ t : State, exec (.byteReceived b true) s = .next t.finish ∧
          t = { s with link := t.link, inbox := t.inbox } ∧ t.link.rxState = .hunting ∧
          (s.link.inHand.isSome = true →
            t.link.queue = s.link.queue ++ [frameOf all] ∧ t.inbox = []) ∧
          ∀ f l, s.link.inHand = none → s.link.queue ++ [frameOf all] = f :: l →
            t.link.queue = l ∧ t.link.inHand = some (f.kind, f.tag) ∧ t.inbox = [.request f]))

/-- The last byte of a frame frees the transmitter for a waiting reply; at the end of a reply the request in hand is answered and the
oldest frame of the queue is taken in hand, before or after the transmitter asks for a notice (R192, R195; that order is a free value,
log 11). With the transmitter IDLE the event has no effect: the model's choice (log 9). -/
def Obligations.LastByteFreesTransmitter : Prop :=
  ∀ s : State,
    let quiet : State := { s with inbox := [] }
    let freed : Link := match s.link.waiting with
      | f :: w => { s.link with tx := .reply f, waiting := w }
      | [] => { s.link with tx := .idle }
    let done : State := { quiet with link := { freed with inHand := none } }
    (s.link.tx = .idle → exec .lastByteSent s = .next quiet.quietEnd) ∧
    (∀ f, s.link.tx = .notice f → exec .lastByteSent s = .next (State.quietEnd { quiet with link := freed })) ∧
    (∀ f, s.link.tx = .reply f → s.link.queue = [] → exec .lastByteSent s = .next done.quietEnd) ∧
    ∀ f g l, s.link.tx = .reply f → s.link.queue = g :: l →
      ∃ t : State, exec .lastByteSent s = .next t.finish ∧ t.link.inHand = some (g.kind, g.tag) ∧
        t.link.queue = l ∧ t.inbox = [.request g] ∧
        (t = State.takeNext { done with choice := s.choice + 1 } ∨
          t = State.takeNext (State.offerNotice { done with choice := s.choice + 1 }))

/-! ### The Notice Unit -/

/-- R203: SET_LEVEL refuses a source above 21, a level above 7 and source 0; otherwise the source takes the level, a source set to 7 is
cleared, a condition source moved from 7 becomes pending, and nothing else of it changes; the reply is made before any notice. -/
def Obligations.SetLevelMovesSource : Prop :=
  ∀ (tag : Byte) (s : State),
    let h := s.heard 0x58 tag
    (∀ k v : Nat, 21 < k ∨ 7 < v ∨ k = 0 →
      exec (.setLevel tag k v) s = .next (h.answered 0x58 tag .badValue []).refreshLimits) ∧
    ∀ (i : NoticeSource) (v : Nat), i ≠ 0 → v ≤ 7 →
      let old := s.notices
      let u : Notices :=
        if v = 7 then
          { old with
            levels := tset old.levels i 7, waiting := tset old.waiting i false, counts := tset old.counts i 0,
            data := tset old.data i none }
        else if isCondition i = true ∧ tget old.levels i = 7 then
          { old with levels := tset old.levels i v, waiting := tset old.waiting i true }
        else { old with levels := tset old.levels i v }
      exec (.setLevel tag i.val v) s = .next
        (({ h with notices := u } : State).answered 0x58 tag .ok
          (u8 i.val ++ u8 v ++ encBool (tget u.waiting i))).refreshLimits

/-- The notice chosen is ESTOP's when it is pending, else the sendable source of lowest level, then of lowest number, and none when no
source is sendable; making it clears the source; SET_THRESHOLD holds back the pending sources whose level is not below it (R202,
R204). -/
def Obligations.NoticeChoiceAndThreshold : Prop :=
  (∀ u : Notices,
    (tget u.waiting 0 = true → u.choose = some 0) ∧
    (tget u.waiting 0 = false → ∀ i, u.choose = some i →
      tget u.waiting i = true ∧ tget u.levels i < u.threshold ∧
      ∀ j, tget u.waiting j = true → tget u.levels j < u.threshold →
        tget u.levels i < tget u.levels j ∨ (tget u.levels i = tget u.levels j ∧ i ≤ j)) ∧
    (u.choose = none → ∀ j, tget u.waiting j = true → u.threshold ≤ tget u.levels j)) ∧
  (∀ (s : State) (i : NoticeSource), s.link.tx = .idle → s.notices.choose = some i →
    ∃ f, s.offerNotice.link = { s.link with tx := .notice f, seq := s.link.seq + 1 } ∧ f.kind = 0x80#8 ∧
      f.tag = s.link.seq ∧ f.payload = s.noticePayload i ∧ tget s.offerNotice.notices.waiting i = false ∧
      tget s.offerNotice.notices.counts i = 0 ∧
      ∀ j, j ≠ i → tget s.offerNotice.notices.waiting j = tget s.notices.waiting j) ∧
  ∀ (tag : Byte) (v : Nat) (s : State),
    (7 < v → exec (.setThreshold tag v) s = .next ((s.heard 0x59 tag).answered 0x59 tag .badValue []).refreshLimits) ∧
    (v ≤ 7 → exec (.setThreshold tag v) s = .next
      (({ s.heard 0x59 tag with notices := { s.notices with threshold := v } } : State).answered 0x59 tag .ok
        (u8 v ++ u32 (allSources.filter (fun i =>
          tget s.notices.waiting i && (decide (i ≠ 0) && decide (v ≤ tget s.notices.levels i)))).length)).refreshLimits)

/-! ### Reading the part -/

/-- A request that reads answers OK in every line mode, but for READ_ORDER with an id of no order and for a stand out of range, and
changes nothing but the link's transmitter and the counter of free values (the times left, log 6); the form of a READ_MAP reply, with no
field of its own for the number of spans held and with end and reach as two optional fields, is the model's choice (log 13); a request of
no kind of the list is answered UNKNOWN_REQUEST (R17, R39, R40, R61, R76, R92, R109, R135, R153, R168, R187, R192, R197). -/
def Obligations.ReadsAnswerAndChangeNothing : Prop :=
  ∀ (tag : Byte) (s : State),
    let answers := fun (i : Instr) (kind : Byte) (used : Nat) (r : Reply) =>
      exec i s = .next (State.refreshLimits
        (({ s.heard kind tag with choice := s.choice + used } : State).replied kind tag r))
    answers (.readLine tag) 0x07 0 s.reqReadLine.2 ∧
    answers (.readMap tag) 0x11 0
      { status := .ok,
        fields :=
          [.raw (encPos s.tracker.pos ++ u32 s.tracker.backtrack ++ encPos s.cutoff.lastCut ++
              u32 (s.spansBefore s.cutoff.lastCut)),
           .list (s.map.spans.map (fun sp => (s.viewOf sp).encListed))] } ∧
    (∀ id : Nat, answers (.readOrder tag id) 0x1D 0 (s.reqReadOrder id).2 ∧
      (s.order? id = none → s.completed? id = none → (s.reqReadOrder id).2 = Reply.just .notFound) ∧
      ((s.order? id).isSome = true → (s.reqReadOrder id).2.status = .ok)) ∧
    answers (.listOrders tag) 0x1E 0 s.reqListOrders.2 ∧ answers (.readCompleted tag) 0x1F 0 s.reqReadCompleted.2 ∧
    answers (.readKnife tag) 0x22 1 s.reqReadKnife.2 ∧ answers (.readSlitter tag) 0x29 2 s.reqReadSlitter.2 ∧
    answers (.readStacker tag) 0x30 0 s.reqReadStacker.2 ∧
    (∀ k : Nat, ¬(1 ≤ k ∧ k ≤ 7) →
      answers (.readStand tag k) 0x3D 0 (Reply.just .badValue) ∧
      answers (.readSplice tag k) 0x42 0 (Reply.just .badValue)) ∧
    (∀ n : Stand,
      answers (.readStand tag (Stand.number n)) 0x3D 0 (s.reqReadStand (Stand.number n)).2 ∧
      answers (.readSplice tag (Stand.number n)) 0x42 1 (s.reqReadSplice (Stand.number n)).2) ∧
    (∀ r ∈ [s.reqReadLine.2, s.reqListOrders.2, s.reqReadCompleted.2, s.reqReadKnife.2, s.reqReadSlitter.2, s.reqReadStacker.2,
        s.reqReadZones.2, s.reqReadGlue.2], r.status = .ok) ∧
    (∀ n : Stand, (s.reqReadStand (Stand.number n)).2.status = .ok ∧ (s.reqReadSplice (Stand.number n)).2.status = .ok) ∧
    answers (.readZones tag) 0x4A 25 s.reqReadZones.2 ∧ answers (.readGlue tag) 0x51 4 s.reqReadGlue.2 ∧
    answers (.readSummary tag) 0x60 0
      (Reply.okWith (u8 (Mode.code s.gov.mode) ++ encPos s.tracker.pos ++ encList u8 s.pendingBlocks ++
        encList u8 (allBlocks.filter s.abnormal))) ∧
    ∀ kind : Byte, exec (.unknownRequest kind tag) s =
      .next ((s.heard kind tag).replied kind tag (Reply.just .unknownRequest)).refreshLimits

end
end

