-- ==== Sys2Proof/Tests/Slice0.lean ====
section
/-! SUPPORT. The package's own tests: the ill-formed commands each check of WellFormed refuses, the worked examples of the spec,
one small step for some commands, and for each statement with hypotheses a concrete state and operands that meet them. -/

namespace Sys2Proof.Tests

open Sys2Proof Sys2Proof.Machine

/-! ### States the tests start from -/

/-- A geometry: CPM 23,456 and short distances. -/
def geometry : Geometry :=
  { cpm := 23456, dFreeze := 200000, headSpacing := 500, dSlit := 100000, wSlit := 50000, dGate := 40000,
    dStack := 90000, dStand := tfill 7 150000, dZone := tfill 12 60000, dGlue := tfill 4 70000 }

/-- Dry end settings. -/
def dryEnd : DryEnd :=
  { kMin := 6000, cMax := 300, wasteLen := 60000, knifeCycle := 100, setTime := 30, fingerWarn := 20 }

/-- Stand settings. -/
def standCfg : StandCfg :=
  { takeup := 1300, reserve := 100, minRun := 20, tPaste := 500, tCut := 200, tTransfer := 1000, spliceOffset := 1000,
    wApproach := 5000, guardBefore := 2000, spliceLen := 3000, guardAfter := 2000 }

/-- Zone and glue settings. -/
def zonesCfg : ZonesCfg :=
  { scanDiv := 6, channels := tfill 16 { lo := 0, hi := 2000 }, gains := tfill 12 { kp := 120, ki := 10 },
    probeHold := 10, heatGrace := 5, heatSlow := 800, supplySettle := 60, gapMin := 50, gapMax := 800, gapDeadband := 5,
    gapTol := 10, gapMoveTime := 8 }

/-- Governor settings. -/
def govCfg : GovCfg :=
  { accelStep := 10, decelStep := 20, fastStep := 100, crawlSpeed := 300, spliceSpeed := 2000, glueLift := 200 }

/-- A roll record. -/
def rollSpec (id : Nat) : RollSpec := { id := id, kind := 1, width := 2000, diameter := 1200, core := 100, caliper := 200 }

/-- A roll in a state, with a remaining length. -/
def roll (id : Nat) (st : RollState) (left : Nat) : Roll :=
  { spec := rollSpec id, state := st, remaining := left, acc := 0, reserveSeen := false, minRunSeen := false }

/-- A stand that runs on arm A, with a roll in a state on arm B. -/
def standRec (st : RollState) : StandRec :=
  { StandRec.reset with armA := some (roll 11 .running 1), armB := some (roll 21 st 900) }

/-- A grade. -/
def grade : Grade :=
  { kinds := tfill 7 1, zones := tfill 12 { setpoint := 1700, low := 50, high := 50, base := 300 },
    glue := tfill 4 #v[⟨0, 200⟩, ⟨1000, 180⟩, ⟨2000, 150⟩, ⟨4000, 100⟩], cap := 3000 }

/-- The order record of the worked example of section 3.3. -/
def orderSpec (id : Nat) : OrderSpec :=
  { id := id, grade := 2, len := 12345, ordered := 1, allowance := 0, stackSize := 50, width := 1800,
    slits := [100, 17000], scores := [], cap := none, interval := none }

/-- An order of the book. -/
def order (id : Nat) (start stop : Pos) (frozen linked : Bool) : Order :=
  { spec := orderSpec id, state := if frozen then .frozen else .placed, start := start, stop := stop, frozen := frozen,
    linked := linked, gridPassed := 0, sheetsCut := 0, rejected := 0, surplus := 0, skipped := 0, good := 0,
    overflow := 0, stacksDone := 0, outcome := none }

/-- A configured line in a mode. -/
def line (m : Mode) : State :=
  { State.reset with
    tracker := { pos := 450000, backtrack := 0, measured := 1500, window := 14465 },
    cfg := { geometry := some geometry, stands := some (tfill 7 standCfg), dryend := some dryEnd, zones := some zonesCfg,
             governor := some govCfg },
    gov := { Governor.resetWith false with mode := m },
    cutoff := { Cutoff.reset with
      ready := true, segment := .waste, lastPassed := some 440000, lastCut := 440000, kMin := 6000,
      wasteLen := 60000, limitCpm := 23456, limitWaste := 60000 },
    stands := tfill 7 (standRec .ready) }

/-- A line with one order frozen and two linked behind it. -/
def booked : State :=
  { line .running with
    book := { OrderBook.reset with
      orders := [order 2 640000 668957 true false, order 3 668957 697914 false true, order 4 697914 726871 false true],
      grades := tset OrderBook.reset.grades 2 (some grade), naming := tset OrderBook.reset.naming 2 3 } }

/-- A plan. -/
def plan : Plan := { b := 500000, kind := 1, id := 2, owedFrom := none }

/-- A sequence in a stage. -/
def seq (k : SpliceKind) (st : Stage) : Machine.Seq :=
  { kind := k, plan := if k = .planned then some plan else none, required := 1, widthOrder := none, point := none,
    stage := st, triggered := false, approach := true, cancelReq := false, timer := none, standby := .b,
    joint := some 410000, route := none }

/-- A line with a sequence at stand 1. -/
def splicing (k : SpliceKind) (st : Stage) : State :=
  (line .running).setSpl 0 { SpliceRec.reset with seq := some (seq k st) }

/-- What an outcome gives next. -/
def after (o : Out) : Option State := match o with | .next t => some t | _ => none

/-! ### Ill-formed commands (WellFormed) -/

theorem test_wf_setSpeed : Instr.wf (.setSpeed 1 65536) = false := by decide
theorem test_wf_setGrade : Instr.wf (.setGrade 1 256 grade) = false := by decide
theorem test_wf_gradeField : Instr.wf (.setGrade 1 2 { grade with cap := 65536 }) = false := by decide
theorem test_wf_readGrade : Instr.wf (.readGrade 1 256) = false := by decide
theorem test_wf_addOrder : Instr.wf (.addOrder 1 { orderSpec 1 with slits := [65536] }) = false := by decide
theorem test_wf_changeCount : Instr.wf (.changeCount 1 1 1 65536) = false := by decide
theorem test_wf_cancelOrder : Instr.wf (.cancelOrder 1 4294967296) = false := by decide
theorem test_wf_readOrder : Instr.wf (.readOrder 1 4294967296) = false := by decide
theorem test_wf_clearStation : Instr.wf (.clearStation 1 256) = false := by decide
theorem test_wf_loadRoll : Instr.wf (.loadRoll 1 1 0 { rollSpec 1 with core := 256 }) = false := by decide
theorem test_wf_stands : Instr.wf (.markReady 1 256 0) = false ∧ Instr.wf (.unloadRoll 1 1 256) = false ∧
    Instr.wf (.thread 1 256 0) = false ∧ Instr.wf (.clearStand 1 1 (some 256)) = false ∧
    Instr.wf (.readStand 1 256) = false := by decide
theorem test_wf_splices : Instr.wf (.spliceNow 1 256) = false ∧ Instr.wf (.cancelSplice 1 256) = false ∧
    Instr.wf (.readSplice 1 256) = false := by decide
theorem test_wf_heat : Instr.wf (.setSupply 1 256) = false ∧ Instr.wf (.enableZone 1 256 0) = false ∧
    Instr.wf (.clearGlue 1 256) = false := by decide
theorem test_wf_levels : Instr.wf (.setLevel 1 256 0) = false ∧ Instr.wf (.setThreshold 1 256) = false := by decide
theorem test_wf_unknownRequest : Instr.wf (.unknownRequest 0x60 1) = false := by decide
theorem test_wf_geometry : Instr.wf (.configure 1 (.geometry { geometry with cpm := 65536 })) = false := by decide
theorem test_wf_standsSection :
    Instr.wf (.configure 1 (.stands (tfill 7 { standCfg with minRun := 256 }))) = false := by decide
theorem test_wf_dryend : Instr.wf (.configure 1 (.dryend { dryEnd with setTime := 256 })) = false := by decide
theorem test_wf_zones :
    Instr.wf (.configure 1 (.zones { zonesCfg with channels := tfill 16 { lo := -50, hi := 32768 } })) = false := by
  decide
theorem test_wf_governor : Instr.wf (.configure 1 (.governor { govCfg with accelStep := 256 })) = false := by decide
theorem test_wf_otherSection : Instr.wf (.configure 1 (.other 4)) = false := by decide

/-! ### Worked examples of the spec -/

/-- Section 11.2: the check of the bytes "123456789" is 0x29B1. -/
theorem test_crc : crc16 [0x31, 0x32, 0x33, 0x34, 0x35, 0x36, 0x37, 0x38, 0x39] = 0x29B1#16 := by decide +kernel

/-- Section 1.2: 14,465 counts in a window at CPM 23,456 are 370.0 m/min. -/
theorem test_windowSpeed : (line .running).windowSpeed = 3700 := by decide

/-- R57: L = 12,345 at C_MAX 300 gives 3,703; WASTE_LEN 60,000 is clamped to 4,500. -/
theorem test_knifeValue : (line .running).knifeValue 12345 = 3703 ∧ (line .running).wasteValue = 4500 := by decide


/-- Section 3.3: P = 12,345 x 23,456; the cuts at sheets 1, 3 and 11, and the carry at sheet 3. -/
theorem test_grid : 12345 * 23456 = 289564320 ∧ gridCut 289564320 1 = 28956 ∧ gridCut 289564320 3 = 86869 ∧
    gridCut 289564320 11 = 318520 ∧ carry 28956 4320 8640 = (28957, 2960) := by decide

/-- Section 6.3: the medium roll is 7,037 m long. -/
theorem test_rollLength : RollSpec.length { rollSpec 1 with diameter := 1500, core := 100, caliper := 250 } = 7037 := by decide

/-- Section 8.2: LO 0, HI 3,000, raw 2,300 is 1,684. -/
theorem test_probeScaling : (Scaling.read { lo := 0, hi := 3000 } 2300#12).value = 1684 := by decide

/-- Section 8.4: the three zone periods of H2 at reference 3,000. -/
theorem test_zonePeriods :
    let a : ZoneRecipe := { setpoint := 1750, low := 50, high := 50, base := 400 }
    let g : Gains := { kp := 32, ki := 8 }
    let p := fun (i pv : Int) => ({ ZoneRec.reset with integral := i } : ZoneRec).regulate g a pv 3000
    feedForward 400 3000 = 266 ∧ ((p 0 1700).integral, (p 0 1700).output) = (6, 297) ∧
      ((p 500 1200).integral, (p 500 1200).output) = (500, 1000) ∧
      ((p 500 1800).integral, (p 500 1800).output) = (494, 735) := by decide

/-- Section 9.3: the gap of a recipe at four speeds. -/
theorem test_gaps :
    let g : GlueRecipe := #v[⟨1000, 180⟩, ⟨2000, 200⟩, ⟨3000, 230⟩, ⟨4000, 250⟩]
    (gapAt g 800, gapAt g 2450, gapAt g 3000, gapAt g 4200) = (180, 213, 230, 250) := by decide


/-! ### One step -/

/-- A step takes the front command; the queue's rest waits. -/
theorem test_step : (after (step { State.reset with pending := [.reverseCount, .forwardCount] })).map
    (fun t => (t.pending, t.tracker.backtrack)) = some ([.forwardCount], 1) := by decide +kernel

/-- R1: a forward count takes back a reverse count before it raises E. -/
theorem test_backtrack : (after (exec .forwardCount { State.reset with tracker := ⟨7, 1, 0, 0⟩ })).map
    (fun t => (t.tracker.pos, t.tracker.backtrack)) = some (7, 0) := by decide +kernel

/-- R1: E wraps at 2^32. -/
theorem test_wrap : (after (exec .forwardCount { State.reset with tracker := ⟨0xFFFFFFFF#32, 0, 0, 0⟩ })).map
    (fun t => t.tracker.pos) = some 0 := by decide +kernel

/-- R6, R16: an end exactly 2^31 counts ahead of E is above a start ahead of E, and the span is added. -/
theorem test_farEnd : ((line .running).addSpanTell .marked .link 450001 2147933648).2.isSome = true ∧
    ((line .running).addSpanTell .marked .link 449999 450000).2 = none := by decide

/-- R58: a GEOMETRY with another CPM accepted in STOPPED leaves the KNIFE limit, and a DRYEND brings it up to date. -/
theorem test_knifeLimitAtConfigure :
    let t := (line .stopped).applySection (.geometry { geometry with cpm := 5000 })
    t.knifeLimit = (line .stopped).knifeLimit ∧ (t.applySection (.dryend dryEnd)).cutoff.limitCpm = 5000 := by
  decide +kernel

/-- R45: a DRYEND with another K_MIN and WASTE_LEN changes neither the TOO_CLOSE test nor the knife value of waste, until the next
waste cut is computed, which takes them. -/
theorem test_dryEndFromNextWasteCut :
    let t := (line .stopped).applySection (.dryend { dryEnd with kMin := 7000, wasteLen := 14000 })
    t.skipCauseAt 446500 = none ∧ t.wasteValue = 4500 ∧ (t.passCut 446500).skipCauseAt 453000 = some .tooClose ∧
      (t.passCut 446500).regs.cut = some 460500 ∧ (t.passCut 446500).rateNow.wasteValue = 1790 := by decide +kernel

/-- A line with a span that ends at the cut to come and a map change waiting. -/
def pruning : State :=
  { line .running with
    map := { spans := [{ kind := .marked, source := .link, start := 445000, stop := some 450000, coarse := false, openFor := none,
                         floor := none, age := 0 }], nextAge := 1 },
    inbox := [.mapChange] }

/-- R14, R28: a cut's reports are taken before a map change that waits, and the map change of its pruning comes last. -/
theorem test_cutReportsFirst :
    (pruning.takeCut 450000).map.spans = [] ∧ (pruning.takeCut 450000).inbox =
      [.sheet ⟨440000, 450000, .reject, [], true⟩, .mapChange, .mapChange] := by decide +kernel

/-- R164: the GLUE span of a unit at rest starts where the board stood at the unit before the first count. -/
theorem test_glueAtFirstCount :
    ((line .running).takeMotion.openSpanOf (.glue 0)).map (fun x => x.start) = some (449999 + 70000) := by decide +kernel

/-- R71, R78: the standby that sets the new set becomes the incoming one, and the station sent to IDLE marks SLITTER. -/
theorem test_formerIncomingMarks :
    let r : SetRec := { id := 4, slits := [200, 17000], scores := [] }
    let w : SetRec := { id := 3, slits := [100, 17000], scores := [] }
    let s : State := { line .running with
      slitter := { Slitter.reset with
        stationA := { Slitter.reset.stationA with state := .setting, set := some w, timer := some 30 },
        stationB := { Slitter.reset.stationB with state := .setting, set := some r, timer := some 30 },
        awaited := some w, incoming := some .a } }
    let t := s.triggerAwaited w r
    t.slitter.incoming = some .b ∧ t.stationState .a = .idle ∧ tget t.notices.waiting srcSlitter = true := by
  decide

/-! ### The hypotheses of each statement are met

One theorem for each statement with hypotheses: states and operands that meet them, at the edges of their ranges. -/

theorem test_met_StepTakesFrontCommand : State.reset.pending = [] := rfl
theorem test_met_ExecKeepsQueue :
    ∃ t, exec .forwardCount { line .running with pending := [.run 1] } = .next t := ⟨_, rfl⟩
theorem test_met_CalmCascadeKeepsHub :
    ∀ e ∈ ({ line .running with inbox := [.mapChange, .orderChange] } : State).inbox, e.calm = true := by decide
theorem test_met_RequestFreeCascadeKeepsCore :
    ∀ e ∈ ({ line .running with inbox := [.publish, .govStep] } : State).inbox, e.isRequest = false := by decide
theorem test_met_ResetPartKeepsLinkAndHeads :
    (line .running).gov.mode = .running ∧ (line .stopping).gov.mode = .stopping ∧
      (line .estopped).gov.mode ≠ .running ∧ (line .estopped).gov.mode ≠ .stopping := by decide

/-- A line at top speed with a command waiting. -/
def atTop (c : Instr) : State :=
  { line .running with pending := [c], gov := { Governor.resetWith false with mode := .running, reference := 4500 } }

theorem test_met_StepKeepsSpeeds : ∃ t, (atTop .governorPeriodExpiry).SpeedOk ∧
    step (atTop .governorPeriodExpiry) = .next t := ⟨_, by unfold State.SpeedOk; decide, rfl⟩

/-- A MARKED span of the link. -/
def marked : Span :=
  { kind := .marked, source := .link, start := 640000, stop := some 650000, coarse := false, openFor := none, floor := none,
    age := 0 }

/-- A line whose stores are full, with a command waiting. -/
def brimming (c : Instr) : State :=
  { line .running with
    pending := [c], map := { spans := List.replicate 48 marked, nextAge := 48 },
    book := { OrderBook.reset with orders := List.replicate 32 (order 2 640000 668957 true false) } }

theorem test_met_StepKeepsRoom : ∃ t, (brimming (.addReject 1 450001 450002)).RoomOk ∧
    step (brimming (.addReject 1 450001 450002)) = .next t := ⟨_, by unfold State.RoomOk; decide, rfl⟩

/-- The open HEAT span of zone P1. -/
def heatSpan : Span :=
  { kind := .heat, source := .zone 0, start := 500000, stop := none, coarse := false, openFor := some (.zone 0),
    floor := none, age := 0 }

/-- A line with one open span and a command waiting. -/
def openOne (c : Instr) : State := { line .running with pending := [c], map := { spans := [heatSpan], nextAge := 1 } }

theorem openOne_spansOk (c : Instr) : (openOne c).SpansOk := by
  refine ⟨?_, fun src => Nat.le_trans (List.length_filter_le _ _) (Nat.le_refl 1)⟩
  intro sp h
  simp only [openOne, List.mem_singleton] at h
  subst h
  rfl

theorem test_met_StepKeepsSpans :
    ∃ t, (openOne (.webLost 0)).SpansOk ∧ (openOne (.webLost 0)).MapInOrder ∧ step (openOne (.webLost 0)) = .next t :=
  ⟨_, openOne_spansOk _, List.pairwise_singleton _ _, rfl⟩
theorem test_met_StepKeepsOneRunningRoll :
    ∃ t, ({ line .stopped with pending := [.thread 1 1 1] } : State).RollsOk ∧
      step { line .stopped with pending := [.thread 1 1 1] } = .next t :=
  ⟨_, by unfold State.RollsOk; decide, rfl⟩

/-- A zone in PROBE_FAULT that holds its output. -/
def heldZone : ZoneRec :=
  { ZoneRec.reset with enabled := true, state := .probeFault, output := 1000, integral := -1000, hold := .holding 1000 10 }

/-- A line whose zones all hold, with a command waiting. -/
def heldLine (c : Instr) : State :=
  { line .running with
    pending := [c], heat := { Heat.resetWith true with header := .ready, zones := tfill 12 heldZone } }

theorem heldLine_zone (c : Instr) (z : Zone) : (heldLine c).zone z = heldZone := by
  simp [State.zone, heldLine, tget, tfill]

theorem test_met_StepKeepsHeat : ∃ t, (heldLine .zonePeriodExpiry).HeatOk ∧ step (heldLine .zonePeriodExpiry) = .next t := by
  refine ⟨_, fun z => ?_, rfl⟩
  rw [heldLine_zone]
  refine ⟨by decide, by decide, by decide, by decide, by decide, by decide, ?_⟩
  intro v t h
  simp only [heldZone, Hold.holding.injEq] at h
  omega

theorem test_met_EncoderCountsMoveE :
    (line .running).tracker.backtrack = 0 ∧
      0 < ({ line .running with tracker := ⟨7, 1, 0, 0⟩ } : State).tracker.backtrack := by decide
/-- A line whose map holds two spans ahead of E and one that has been open for 2^31 counts, the lowest of them. -/
def longOpen : State :=
  { line .running with map :=
    { spans := [{ heatSpan with start := 450000 - 2147483648 }, { marked with start := 460000, stop := some 461000, age := 1 },
        { marked with start := 480000, stop := some 481000, age := 2 }], nextAge := 3 } }

/-- R4: one count later the signed distance of the long open span makes it the highest, and a span entered then finds its place. -/
theorem test_mapTurns :
    let t := longOpen.takeForward
    t.map.spans.map (fun x => x.start) = [460000, 480000, 450000 - 2147483648] ∧
      (t.addSpanTell .marked .link 470000 471000).1.map.spans.map (fun x => x.start) =
        [460000, 470000, 480000, 450000 - 2147483648] := by decide +kernel

theorem test_met_ForwardStepHandsOverCrossings :
    (line .running).tracker.backtrack = 0 ∧
      ∀ x ∈ (openOne .forwardCount).map.spans, x.start ≠ (openOne .forwardCount).tracker.pos + 1 + 0x7FFFFFFF#32 := by decide

/-- A line whose first stand runs a roll with a remaining length. -/
def drawing (left : Nat) : State :=
  (line .running).setStand 0 { standRec .ready with armA := some (roll 11 .running left) }

theorem test_met_DecrementDrawsRoll :
    ((drawing 102).stand 0).running = some .a ∧ ((drawing 102).stand 0).arm .a = some (roll 11 .running 102) ∧
      ((drawing 102).standCfg 0).reserve < 102 - 1 ∧ ((drawing 102).standCfg 0).minRun < 102 - 1 ∧
      ((drawing 1).stand 0).running = some .a ∧ ((drawing 1).stand 0).arm .a = some (roll 11 .running 1) ∧
      (roll 11 .running 1).remaining = 1 ∧ 2 ≤ (roll 11 .running 101).remaining ∧
      ((drawing 101).stand 0).running = some .a ∧ ((drawing 101).stand 0).arm .a = some (roll 11 .running 101) ∧
      (((drawing 101).handle (.decrement 0)).stand 0).expiry = .raised ∧
      ((drawing 101).handle (.decrement 0)).inbox = [.expiry 0] ∧ 2 ≤ (roll 11 .running 2).remaining ∧
      ((drawing 2).handle (.decrement 0)).inbox = [.expiry 0, .minRun 0] := by decide +kernel

/-- A line that is stopping, with its reference, its fast flag and its measured speed. -/
def slowing (ref : Nat) (fast : Bool) (measured : Nat) : State :=
  { line .stopping with
    gov := { Governor.resetWith false with mode := .stopping, reference := ref, fast := fast },
    tracker := ⟨450000, 0, measured, 0⟩ }

theorem test_met_GovernorStepMovesReference :
    (line .running).gov.mode = .running ∧ (slowing 20 false 0).gov.mode = .stopping ∧
      20 - (slowing 20 false 0).govCfg.decelStep = 0 ∧ 100 - (slowing 100 true 0).govCfg.fastStep = 0 ∧
      (slowing 100 true 0).tracker.measured = 0 ∧ 21 - (slowing 21 false 0).govCfg.decelStep ≠ 0 ∧
      (slowing 0 false 1).tracker.measured ≠ 0 ∧ (line .halted).gov.mode ≠ .running ∧
      (line .halted).gov.mode ≠ .stopping := by decide

theorem test_met_TargetIsLowestLimit : (LimitSource.requested, some 0) ∈ Limits.reset.list := by decide

/-- A line whose unfrozen order was linked to an order that has gone DONE, an earlier frozen one still in the book or not. -/
def orphan (earlier : Bool) : State :=
  { booked with book := { booked.book with
      orders := (if earlier then [order 2 640000 660000 true false] else []) ++ [order 3 668957 697914 false true] } }

/-- A line with one unfrozen head order. -/
def headOnly : State := { booked with book := { booked.book with orders := [order 3 668957 697914 false false] } }

/-- R25: the start of an order linked to a frozen end stays where that end was, when the order it was linked to has gone DONE. -/
theorem test_linkedStartStays :
    ((orphan true).placementPass.book.orders.map (fun o => o.start)) = [640000, 668957] ∧
      ((orphan false).placementPass.book.orders.map (fun o => o.start)) = [668957] := by decide +kernel

theorem test_met_PlanRefreshPlacesOrders :
    booked.book.orders[0]? = some (order 2 640000 668957 true false) ∧ (order 2 640000 668957 true false).frozen = true ∧
      booked.placementPass.book.notApplied = false ∧ booked.book.orders[1]? = some (order 3 668957 697914 false true) ∧
      (order 3 668957 697914 false true).linked = true ∧ booked.placementPass.book.orders[0]?.isSome = true ∧
      booked.placementPass.book.orders[1]?.isSome = true ∧ (booked.book.orders[2]?.map (fun o => (o.frozen, o.linked))) =
        some (false, true) ∧ booked.placementPass.book.orders[2]?.isSome = true ∧
      (orphan false).placementPass.book.notApplied = false ∧
      (orphan false).book.orders[0]? = some (order 3 668957 697914 false true) ∧
      (orphan false).placementPass.book.orders[0]?.isSome = true ∧ headOnly.placementPass.book.notApplied = false ∧
      (order 3 668957 697914 false false).linked = false ∧ headOnly.placementPass.book.orders[0]?.isSome = true ∧
      headOnly.book.orders[0]? = some (order 3 668957 697914 false false) := by decide +kernel

theorem test_met_PlannedEndIsGridCutPastFreeze :
    0 < booked.productOf (orderSpec 3) ∧
      booked.planEnd [] (order 3 668957 697914 false true) = some 697913 := by decide +kernel

theorem test_met_GradesAreWrittenAndRead :
    Grade.inRange grade = true ∧ Grade.inRange { grade with cap := 4501 } = false ∧ booked.namingOf 2 ≠ 0 ∧
      tget booked.book.naming 63 = 0 ∧ tget booked.book.grades 63 = none ∧
      tget booked.book.grades 2 = some grade ∧ order 2 640000 668957 true false ∈ booked.book.orders ∧
      booked.inOrderLimit (order 2 640000 668957 true false) = true ∧ booked.grade? 2 = some grade ∧
      ({ grade with cap := 0 } : Grade).cap = 0 := by decide

/-- A line with one frozen order that ends at a position. -/
def tailAt (p : Pos) : State :=
  { booked with book := { booked.book with orders := [order 2 640000 p true false] } }

/-- The largest order the sheet tests take. -/
def longOrder : OrderSpec := { orderSpec 9 with len := 80000, ordered := 5700 }

theorem test_met_AddOrderEntersOrRefuses :
    (line .unconfigured).gov.mode = .unconfigured ∧ booked.gov.mode ≠ .unconfigured ∧
      booked.orderRanges { orderSpec 9 with len := 2999 } = false ∧
      booked.orderSheets { orderSpec 9 with ordered := 99999 } = false ∧
      booked.orderRanges (orderSpec 9) = true ∧ booked.orderSheets (orderSpec 9) = true ∧
      booked.grade? 3 = none ∧ (booked.grade? 2).isSome = true ∧ (booked.order? 2).isSome = true ∧
      booked.order? 9 = none ∧ booked.completed? 9 = none ∧
      32 ≤ (brimming (.run 0)).book.orders.length ∧ (brimming (.run 0)).order? 9 = none ∧ booked.book.orders.length < 32 ∧
      (tailAt 1074191823).orderSheets longOrder = true ∧
      (tailAt 1074191823).planEnd (tailAt 1074191823).badBoard ((tailAt 1074191823).freshOrder longOrder) = none ∧
      (tailAt 1074162868).planEnd (tailAt 1074162868).badBoard ((tailAt 1074162868).freshOrder (orderSpec 9)) =
        some 1074191824 ∧
      1073741824 ≤ Pos.ahead 450000 1074191824 ∧
      (tailAt 1074162867).planEnd (tailAt 1074162867).badBoard ((tailAt 1074162867).freshOrder (orderSpec 9)) =
        some 1074191823 ∧
      Pos.ahead 450000 1074191823 < 1073741824 := by decide +kernel

theorem test_met_ChangeAndCancelReplan :
    booked.order? 9 = none ∧ booked.order? 2 = some (order 2 640000 668957 true false) ∧
      booked.order? 4 = some (order 4 697914 726871 false true) ∧
      (1 ≤ 1 ∧ 1 ≤ 99999 ∧ 0 ≤ 500 ∧ (1 + 0) * (booked.productOf (orderSpec 4) / 10000 + 1) < 1073741824) ∧
      ¬((99999 + 0) * (booked.productOf (orderSpec 4) / 10000 + 1) < 1073741824) ∧
      1 + 0 < ({ order 4 697914 726871 false true with sheetsCut := 2 } : Order).knifeGood ∧
      (order 4 697914 726871 false true).knifeGood ≤ 1 + 0 ∧
      booked.startFrozen (order 3 668957 697914 false true) = true ∧
      booked.startFrozen (order 4 697914 726871 false true) = false := by decide +kernel

theorem test_met_AddRejectMarksBoard :
    (line .unconfigured).gov.mode = .unconfigured ∧ (line .running).gov.mode ≠ .unconfigured ∧
      ((7 - 7 : Pos)).toNat = 0 ∧ 2147483648 ≤ ((6 - 7 : Pos)).toNat ∧
      (0 < ((450000 - 449999 : Pos)).toNat ∧ ((450000 - 449999 : Pos)).toNat < 2147483648 ∧
        ((line .running).tracker.pos - 450000).toNat < 2147483648) ∧
      0 < ((450001 - 449999 : Pos)).toNat ∧ 2147483648 ≤ ((line .running).tracker.pos - 450001).toNat := by decide

theorem test_met_MapKeepsCoverage :
    (openOne (.run 0)).SpansOk ∧ (openOne (.run 0)).covers 509999 = true ∧
      isBelow (openOne (.run 0)).tracker.pos 509999 509999 = false ∧ (openOne (.run 0)).cfg.geometry.isSome = true ∧
      isReached (openOne (.run 0)).tracker.pos 450001 = false ∧
      isBelow (openOne (.run 0)).tracker.pos 450000 (clampStart (openOne (.run 0)).tracker.pos 440000) = false ∧
      isBelow (openOne (.run 0)).tracker.pos 450000 450001 = true :=
  ⟨openOne_spansOk _, by decide, by decide, by decide, by decide, by decide, by decide⟩

theorem test_met_KnifeHoldReleaseAndCycle :
    (line .unconfigured).gov.mode = .unconfigured ∧ (line .estopped).gov.mode ≠ .unconfigured := by decide

/-- The grid record of an order. -/
def gridOf (id : Nat) (start : Pos) : Grid :=
  { id := id, start := start, product := 289564320, q0 := 28956, r0 := 4320, r := 4320, j := 1, g := 0 }

/-- A line that cuts the order with an unfrozen end. -/
def cutting : State :=
  { booked with
    cutoff := { booked.cutoff with segment := .order (gridOf 3 440000), openSheet := [] },
    book := { booked.book with orders := [order 3 440000 668956 false false] } }

/-- A line that cuts an order whose end is frozen, with one that starts at a position behind it. -/
def cuttingLast (p : Pos) : State :=
  { cutting with book := { booked.book with orders := [order 3 440000 668956 true false, order 4 p 726871 false true] } }

theorem test_met_KnifeValueFromSheetLength :
    cutting.gov.mode ≠ .unconfigured ∧ cutting.cutoff.ready = true ∧
      cutting.cutoff.segment = .order (gridOf 3 440000) ∧ cutting.order? 3 = some (order 3 440000 668956 false false) ∧
      (order 3 440000 668956 false false).frozen = false ∧ (line .running).cutoff.segment = .waste ∧
      (line .running).cutoff.lastPassed.bind (line .running).orderBeyond = none ∧ (line .running).dry.cMax = 300 ∧
      (line .running).cutoff.limitWaste = 60000 ∧ (line .running).cutoff.limitCpm = 23456 ∧
      (cuttingLast 668956).order? 3 = some (order 3 440000 668956 true false) ∧
      (order 3 440000 668956 true false).frozen = true ∧
      nextOf 3 (cuttingLast 668956).book.orders = some (order 4 668956 726871 false true) ∧
      nextOf 3 (cuttingLast 700000).book.orders = some (order 4 700000 726871 false true) ∧
      (700000 : Pos) ≠ 668956 ∧ (line .running).cutoff.lastPassed = some 440000 ∧
      booked.cutoff.lastPassed.bind booked.orderBeyond = some (order 2 640000 668957 true false) := by decide

theorem test_met_CutFiresOrSkips :
    ((445999 - 440000 : Pos)).toNat < (line .running).cutoff.kMin ∧ ¬((446000 - 440000 : Pos)).toNat < (line .running).cutoff.kMin ∧
      (line .running).cutoff.lastPassed = some 440000 ∧ (line .running).cutoff.ready = true ∧
      (line .running).cutoff.cycle = none ∧ (line .running).gov.mode ≠ .estopped ∧
      Cutoff.reset.ready = false ∧ ({ Cutoff.reset with ready := true, cycle := some 100 } : Cutoff).cycle.isSome = true ∧
      (line .estopped).gov.mode = .estopped ∧ (openOne (.run 0)).isCovered 500000 500001 = true ∧
      ((line .running).handle (.crossing .cut 500000)).cutoff.segment = .waste ∧
      (cutting.handle (.crossing .cut 468956)).cutoff.segment.grid?.isSome = true ∧
      (∃ r : Sheet, Ev.sheet r ∈ ((cutting.handle (.crossing .cut 468956)).inbox) ∧ r.cls = .good) := by
  refine ⟨by decide, by decide, by decide, by decide, by decide, by decide, by decide, by decide, by decide, by decide,
    by decide +kernel, by decide +kernel,
    ⟨⟨440000, 468956, .good, [⟨3, 1, 1, false⟩], false⟩, by decide +kernel, rfl⟩⟩

/-- A set record. -/
def setRec : SetRec := { id := 3, slits := [100, 17000], scores := [] }

/-- A line whose stations are in given states, with a set awaited or not. -/
def slitting (m : Mode) (a b : StationState) (awaited : Option SetRec) (incoming : Option Station) : State :=
  { line m with
    slitter := { Slitter.reset with
      stationA := { Slitter.reset.stationA with state := a, set := some setRec, timer := some 30 },
      stationB := { Slitter.reset.stationB with state := b },
      awaited := awaited, incoming := incoming } }

theorem test_met_SetDoneAndSetExpiry :
    (slitting .running .idle .idle none none).stationState .a ≠ .setting ∧
      (slitting .running .setting .fault (some setRec) (some .a)).stationState .a = .setting ∧
      (slitting .running .setting .fault (some setRec) (some .a)).slitter.awaited.isSome = true ∧
      (slitting .running .setting .fault (some setRec) (some .a)).slitter.incoming = some .a ∧
      (slitting .running .setting .fault (some setRec) (some .a)).stationState .b = .fault ∧
      (slitting .running .setting .engaged (some setRec) (some .a)).stationState .b = .engaged ∧
      (slitting .running .setting .ready (some setRec) (some .a)).stationState .b ≠ .engaged ∧
      (slitting .running .setting .ready (some setRec) (some .a)).stationState .b ≠ .fault ∧
      (line .running).gov.mode ≠ .estopped ∧ (line .running).gov.mode ≠ .unconfigured ∧
      (slitting .running .setting .idle none none).slitter.awaited.isSome = false := by decide

theorem test_met_ClearStationIdlesAndServes :
    2 ≤ 2 ∧ (line .unconfigured).gov.mode = .unconfigured ∧
      (slitting .stopped .fault .idle none none).gov.mode ≠ .unconfigured ∧
      (slitting .stopped .fault .idle none none).stationState .a = .fault ∧
      (slitting .stopped .fault .idle none none).stationState .b ≠ .fault ∧
      (slitting .stopped .fault .fault (some setRec) none).slitter.awaited = some setRec ∧
      (slitting .stopped .fault .fault (some setRec) none).slitter.incoming = none ∧
      (slitting .estopped .fault .fault (some setRec) none).gov.mode = .estopped ∧
      (slitting .stopped .fault .fault (some setRec) none).gov.mode ≠ .estopped := by decide

/-- A GOOD sheet of an order at the gate. -/
def goodSheet : TrainRec := { sheet := ⟨410000, 438956, .good, [⟨2, 1, 1, false⟩], false⟩, mark := .ahead }

/-- A stack record with sheets allotted. -/
def stackRec (allotted : Nat) : StackRec :=
  { id := 2, number := 1, allotted := allotted, landed := 0, lastFlag := false, closed := false, short := false }

/-- A line with a sheet ahead of the gate and the given table and fingers. -/
def gated (table fingers : Option StackRec) (m : StackerState) (out : List OutEntry) : State :=
  { booked with stacker := { Stacker.reset with train := [goodSheet], table := table, fingers := fingers, mode := m, out := out } }

/-- An entry of the out-conveyor. -/
def outEntry : OutEntry := { id := 1, number := 1, count := 50, short := false }

/-- The gate passes the fiftieth sheet of a stack of 50, starts the fingers with the next, and diverts the forty-first on them. -/
theorem test_met_GatePassesPlacedSheets :
    (gated none none .building []).stacker.oldestAhead = some goodSheet ∧
      ((gated (some (stackRec 49)) none .building []).handle (.crossing .gate 450000)).stacker.divert = false ∧
      ((gated (some (stackRec 50)) (some (stackRec 39)) .building []).handle (.crossing .gate 450000)).stacker.divert = false ∧
      ((gated (some (stackRec 50)) (some (stackRec 40)) .building []).handle (.crossing .gate 450000)).stacker.divert =
        true := by decide +kernel

theorem test_met_TransferDoneAndStackTaken :
    (gated none none .building []).stacker.mode ≠ .transferring ∧ (gated none none .transferring []).stacker.table = none ∧
      (gated (some (stackRec 50)) none .transferring []).stacker.table = some (stackRec 50) ∧
      (gated (some (stackRec 50)) none .transferring []).stacker.mode = .transferring ∧
      tget Notices.reset.levels srcStackOut ≠ 7 ∧ (gated none none .building []).stacker.out = [] ∧
      (gated none none .building [outEntry]).stacker.out = outEntry :: [] ∧
      (gated none none .blocked [outEntry]).stacker.mode = .blocked ∧
      (gated none none .blocked [outEntry]).gov.mode ≠ .estopped ∧ (line .estopped).gov.mode = .estopped ∧
      (List.replicate 3 outEntry).length < 4 := by decide

theorem test_met_LoadRollPutsRollOnArm :
    ¬(1 ≤ 0 ∧ 0 ≤ 7 ∧ 0 ≤ 1) ∧ ¬(1 ≤ 8 ∧ 8 ≤ 7 ∧ 0 ≤ 1) ∧ ¬(1 ≤ 1 ∧ 1 ≤ 7 ∧ 2 ≤ 1) ∧
      RollSpec.inRange (rollSpec 1) = true ∧ RollSpec.inRange (rollSpec 0) = false ∧ State.reset.rollHeld 1 = false ∧
      (line .running).rollHeld 11 = true ∧ ((line .running).stand 0).armA.isSome = true := by decide

/-- A line whose stand 1 runs on arm A with a roll in a state on arm B. -/
def standby (m : Mode) (st : RollState) : State := (line m).setStand 0 (standRec st)

/-- A line whose stand 1 has a roll in a state on arm A alone. -/
def lone (m : Mode) (st : RollState) (left : Nat) (fault : Option FaultCause) : State :=
  (line m).setStand 0 { StandRec.reset with armA := some (roll 11 st left), fault := fault }

theorem test_met_MarkReadyAndPrepared :
    (line .unconfigured).gov.mode = .unconfigured ∧ (line .stopped).gov.mode ≠ .unconfigured ∧
      ((lone .stopped .loaded 5 none).stand 0).arm .b = none ∧
      ((standby .stopped .loaded).stand 0).arm .b = some (roll 21 .loaded 900) ∧
      ((standby .stopped .ready).stand 0).arm .b = some (roll 21 .ready 900) ∧
      ((standby .stopped .ready).stand 0).arm .a = some (roll 11 .running 1) ∧
      ((standby .stopped .expired).stand 0).arm .b = some (roll 21 .expired 900) ∧
      ((lone .stopped .loaded 5 none).stand 0).standby = none ∧ ((standby .stopped .loaded).stand 0).standby = some .b ∧
      ((lone .stopped .running 5 none).stand 0).standby = some .b := by decide

theorem test_met_UnloadAndThread :
    ¬(1 ≤ 0 ∧ 0 ≤ 7 ∧ 0 ≤ 1) ∧ ¬(1 ≤ 8 ∧ 8 ≤ 7 ∧ 1 ≤ 1) ∧
      ((splicing .planned .armed).spl 0).seq.isSome = true ∧ ((splicing .planned .armed).stand 0).standby = some .b ∧
      ((splicing .planned .armed).stand 0).arm .b = some (roll 21 .ready 900) ∧
      (after (exec (.thread 1 1 0) (lone .stopped .loaded 100 none))).map (fun t => (t.stand 0).expiry) = some .due ∧
      (after (exec (.thread 1 1 0) (lone .stopped .loaded 101 none))).map (fun t => (t.stand 0).expiry) = some .notDue := by
  decide +kernel

theorem test_met_WebLostFaultsStand :
    ((lone .running .loaded 5 none).stand 0).running = none ∧ ((standby .running .ready).stand 0).running = some .a ∧
      (standby .running .ready).cfg.geometry.isSome = true ∧ (standby .running .ready).map.spans.length < 48 ∧
      ({ line .running with map := { spans := List.replicate 47 marked, nextAge := 47 } } : State).map.spans.length < 48 ∧
      (standby .running .ready).SpansOk := by
  have h : (standby .running .ready).map.spans = [] := by decide
  refine ⟨by decide, by decide, by decide, by decide, by decide, ?_⟩
  simp [State.SpansOk, h]

theorem test_met_ClearStandRestores :
    ¬(1 ≤ 1 ∧ 1 ≤ 7 ∧ ∀ x, some 2 = some x → x ≤ 1) ∧ (line .unconfigured).gov.mode = .unconfigured ∧
      ((line .stopped).stand 0).fault = none ∧ ((lone .running .expired 1 (some .webLost)).stand 0).fault ≠ none ∧
      (line .running).gov.mode = .running ∧ (line .stopped).gov.mode ≠ .unconfigured ∧
      (line .stopped).gov.mode ≠ .running ∧ (line .stopped).gov.mode ≠ .stopping ∧
      ((lone .stopped .expired 0 (some .runOut)).stand 0).arm .a = some (roll 11 .expired 0) ∧
      (roll 11 .expired 0).remaining = 0 ∧ ((lone .stopped .expired 0 (some .runOut)).stand 0).arm .b = none ∧
      ((lone .stopped .expired 1 (some .webLost)).stand 0).arm .a = some (roll 11 .expired 1) ∧
      0 < (roll 11 .expired 1).remaining ∧ ((lone .stopped .expired 1 (some .webLost)).stand 0).runsOn .a = false := by
  refine ⟨?_, by decide, by decide, by decide, by decide, by decide, by decide, by decide, by decide, by decide, by decide,
    by decide, by decide, by decide⟩
  intro h
  exact absurd (h.2.2 2 rfl) (by decide)

theorem test_met_PastedAndCutAdvance :
    ((line .running).spl 0).seq = none ∧ ((splicing .expiry .paste).spl 0).seq = some (seq .expiry .paste) ∧
      (seq .expiry .paste).stage = .paste ∧ ((splicing .now .cut).spl 0).seq = some (seq .now .cut) ∧
      (seq .now .cut).stage = .cut := by decide

/-- A line whose stand 1 is in TRANSFER with its joint ahead, above or below the b of its plan. -/
def joining (joint : Pos) : State :=
  (line .running).setSpl 0 { SpliceRec.reset with
    seq := some { seq .planned .transfer with joint := some joint }, mismatchOpen := true }

/-- R123: the SPLICE and MISMATCH spans of a splice laid late and of one laid early. -/
theorem test_jointSpans :
    ((joining 510000).takeTransferExpiry 0).map.spans.map (fun x => (x.kind, x.start, x.stop)) =
      [(.splice, 508000, some 515000), (.mismatch, 500000, some 510000)].reverse ∧
    ((joining 490000).takeTransferExpiry 0).map.spans.map (fun x => (x.kind, x.start, x.stop)) =
      [(.splice, 488000, some 495000), (.mismatch, 490000, some 500000)] := by decide +kernel

theorem joining_spansOk (joint : Pos) : (joining joint).SpansOk := by
  have h : (joining joint).map.spans = [] := rfl
  simp [State.SpansOk, h]

theorem test_met_TransferSpans :
    ((joining 510000).spl 0).mismatchOpen = true ∧ (joining 510000).cfg.geometry.isSome = true ∧
      (joining 510000).map.spans.length < 47 ∧ ((joining 510000).spl 0).seq.bind (fun q => q.joint) = some 510000 ∧
      ((joining 510000).spl 0).seq.bind (fun q => q.plan) = some plan ∧ isBeyond plan.b 510000 = true ∧
      isBeyond 490000 plan.b = true ∧ (seq .expiry .transfer).plan = none ∧
      isReached 450000 510000 = false ∧ isBelow 450000 505000 (clampStart 450000 500000) = false ∧
      isBelow 450000 505000 510000 = true := by decide +kernel

theorem test_met_TransferExpiryCompletes :
    ((line .running).spl 0).seq = none ∧ ((splicing .planned .transfer).spl 0).seq = some (seq .planned .transfer) ∧
      (seq .planned .transfer).stage = .transfer ∧ tget Notices.reset.levels (srcSpliceEnd 0) ≠ 7 ∧
      ((splicing .planned .transfer).stand 0).arm (seq .planned .transfer).standby = some (roll 21 .ready 900) ∧
      ((splicing .planned .transfer).stand 0).arm (Arm.other (seq .planned .transfer).standby) =
        some (roll 11 .running 1) ∧ (roll 11 .running 1).state = .running := by decide

/-- A line with a sequence at stand 1 after some failures. -/
def failing (k : SpliceKind) (st : Stage) (n : Nat) : State :=
  (line .running).setSpl 0 { SpliceRec.reset with seq := some (seq k st), failures := n }

theorem test_met_PasteFailAndCutFail :
    ((failing .planned .paste 1).spl 0).seq = some (seq .planned .paste) ∧ (seq .planned .paste).stage = .paste ∧
      ((failing .planned .paste 1).spl 0).failures = 1 ∧ 2 ≤ ((failing .expiry .paste 2).spl 0).failures ∧
      ((failing .planned .paste 1).stand 0).arm (seq .planned .paste).standby = some (roll 21 .ready 900) ∧
      (seq .expiry .paste).kind = .expiry ∧ (seq .planned .paste).plan = some plan ∧
      (seq .planned .paste).kind ≠ .expiry ∧ ((failing .planned .cut 0).spl 0).seq = some (seq .planned .cut) ∧
      (seq .planned .cut).stage = .cut ∧ (seq .planned .cut).plan = some plan ∧
      (line .running).cfg.geometry.isSome = true ∧ (line .running).map.spans.length < 48 ∧
      ((failing .planned .paste 1).spl 0).mismatchOpen = false ∧
      (failing .planned .paste 1).openSpanOf (.stand 0) = none := by decide

/-- A line with a roll wait at stand 1. -/
def waiting (m : Mode) (w : RollWait) (held : Bool) : State :=
  (line m).setSpl 0 { SpliceRec.reset with wait := w, expiryHeld := held }

theorem test_met_SpliceNowStartsSplice :
    (line .stopped).gov.mode ≠ .running ∧ ((lone .running .running 5 (some .webLost)).stand 0).fault ≠ none ∧
      (line .running).gov.mode = .running ∧ ((line .running).stand 0).fault = none ∧
      ((splicing .now .armed).spl 0).seq.isSome = true ∧ ((waiting .running (.plan plan) false).spl 0).wait = .plan plan ∧
      ((line .running).spl 0).seq.isSome = false ∧ ((line .running).spl 0).wait = .none ∧
      ((waiting .running .expiry false).spl 0).wait = .expiry ∧
      (standby .running .loaded).isReady 0 ((standby .running .loaded).boardNeeds 0).1
        ((standby .running .loaded).boardNeeds 0).2 = false ∧
      (line .running).isReady 0 ((line .running).boardNeeds 0).1 ((line .running).boardNeeds 0).2 = true ∧
      ((line .running).stand 0).standby = some .b ∧ ((line .running).stand 0).arm .b = some (roll 21 .ready 900) ∧
      (line .running).tracker.measured ≤ (line .running).govCfg.spliceSpeed ∧
      ¬(({ line .running with tracker := ⟨450000, 0, 2001, 0⟩ } : State).tracker.measured ≤
        (line .running).govCfg.spliceSpeed) := by decide

theorem test_met_CancelSpliceByStage :
    (line .unconfigured).gov.mode = .unconfigured ∧ (line .running).gov.mode ≠ .unconfigured ∧
      ((splicing .planned .paste).spl 0).seq = some (seq .planned .paste) ∧ (seq .planned .paste).stage ≠ .armed ∧
      ((splicing .planned .armed).spl 0).seq = some (seq .planned .armed) ∧ (seq .planned .armed).stage = .armed ∧
      (seq .planned .armed).plan = some plan ∧ (seq .expiry .armed).kind = .expiry ∧
      ((waiting .running .expiry false).spl 0).seq = none ∧ ((waiting .running .expiry false).spl 0).wait = .expiry ∧
      ((waiting .running (.plan plan) false).spl 0).wait = .plan plan ∧
      ((waiting .running .none true).spl 0).wait = .none ∧ ((waiting .running .none true).spl 0).expiryHeld = true ∧
      ((waiting .running .none false).spl 0).expiryHeld = false := by decide

/-- A line whose scanner is at a channel with a conversion in flight. -/
def scanning (c : Channel) : State :=
  { line .running with scanner := { Scanner.reset with pointer := c, conversion := some 2000 } }

theorem test_met_ConversionFormsRecord :
    (line .running).scanner.conversion = none ∧ (scanning 0).scanner.conversion ≠ none ∧
      (after (exec (.conversionComplete 4095) (scanning 15))).map (fun t => (t.scanner.pointer, t.reading 15)) =
        some (0, some { raw := 4095, value := 2000, bad := true }) := by decide +kernel

/-- A line whose supply header is in a state, with zone P1 enabled. -/
def supplied (m : Mode) (h : Header) : State :=
  { line m with
    heat := { Heat.resetWith true with
      header := h, zones := tset (tfill 12 ZoneRec.reset) 0 { ZoneRec.reset with enabled := true, state := .waitingSupply } } }

theorem test_met_SupplyHeaderMoves :
    2 ≤ 2 ∧ 1 < 2 ∧ (supplied .unconfigured .off).gov.mode = .unconfigured ∧
      (supplied .stopped .off).gov.mode ≠ .unconfigured ∧ (supplied .stopped .off).heat.header = .off ∧
      (supplied .stopped .lost).heat.header ≠ .off ∧ ((supplied .stopped .off).zone 0).enabled = true ∧
      (supplied .stopped .ready).heat.header ≠ .settling ∧ (supplied .stopped .settling).heat.header = .settling ∧
      (supplied .stopped .settling).reading (zoneChannel 0) = none ∧
      (supplied .stopped .settling).heat.header ≠ .off ∧ ((supplied .stopped .settling).zone 0).enabled = true ∧
      (after (exec (.pressureOkChange false) (supplied .stopped .ready))).map (fun t => (t.heat.header, (t.zone 0).state)) =
        some (.lost, .waitingSupply) := by decide +kernel

/-- A line that runs at 300.0 m/min with every zone in a state, its reading at 170.0 degrees. -/
def zoning (st : ZoneState) (h : Hold) (a : Option ZoneRecipe) : State :=
  { line .running with
    gov := { Governor.resetWith false with mode := .running, reference := 3000 },
    scanner := { Scanner.reset with channels := tfill 16 (some { raw := 2320, value := 1700, bad := false }) },
    heat := { Heat.resetWith true with
      header := .ready,
      zones := tfill 12 { ZoneRec.reset with enabled := true, state := st, hold := h, active := a } } }

/-- A zone's recipe of the worked example of section 8.4. -/
def recipe (setpoint : Nat) : ZoneRecipe := { setpoint := setpoint, low := 50, high := 50, base := 400 }

theorem test_met_ZonePeriodSetsOutputs :
    ((zoning .off .none none).zone 0).state = .off ∧
      ((zoning .probeFault (.holding 7 3) none).zone 0).hold = .holding 7 3 ∧
      ((zoning .probeFault .ffOnly (some (recipe 1))).zone 0).active = some (recipe 1) ∧ 0 < (recipe 1).setpoint ∧
      ((zoning .noReading .none (some (recipe 0))).zone 0).active = some (recipe 0) ∧ (recipe 0).setpoint = 0 ∧
      ((zoning .below .none (some (recipe 1750))).zone 0).state = .below ∧
      (zoning .below .none (some (recipe 1750))).reading (zoneChannel 0) =
        some { raw := 2320, value := 1700, bad := false } ∧
      ((zoning .below .none none).zone 0).active = none := by decide

/-- A line as `zoning` has it, its zones disabled. -/
def disabled (a : Option ZoneRecipe) : State :=
  let s := zoning .off .none a
  { s with heat := { s.heat with zones := tfill 12 { ZoneRec.reset with active := a } } }

theorem test_met_ZoneEnableHoldAndBelow :
    (12 ≤ 12 ∨ 2 ≤ 0) ∧ (12 ≤ 11 ∨ 2 ≤ 2) ∧ (supplied .unconfigured .off).gov.mode = .unconfigured ∧
      (supplied .stopped .off).gov.mode ≠ .unconfigured ∧ ((supplied .stopped .off).zone 0).enabled = true ∧
      ((supplied .stopped .off).zone 0).enabled ≠ false ∧ ((supplied .stopped .off).zone 1).enabled ≠ true ∧
      (supplied .stopped .off).heat.header ≠ .ready ∧
      ((zoning .probeFault (.holding 7 3) none).zone 0).hold = .holding 7 3 ∧
      ((supplied .stopped .off).zone 0).below = .stopped ∧
      ((line .stopped).zone 0).enabled ≠ true ∧ (disabled none).heat.header = .ready ∧
      ((disabled none).zone 0).enabled ≠ true ∧ (line .stopped).reading (zoneChannel 0) = none ∧
      (disabled none).reading (zoneChannel 0) = some { raw := 2320, value := 1700, bad := false } ∧
      ((disabled none).zone 0).required = false ∧ ((disabled (some (recipe 1750))).zone 0).required = true ∧
      ((disabled (some (recipe 1750))).zone 0).active = some (recipe 1750) ∧
      ({ raw := 0, value := 0, bad := true } : Reading).bad = true ∧
      (((line .stopped).setZone 0 { ZoneRec.reset with below := .running 5 }).zone 0).below = .running 5 := by decide

/-- The glue recipe of the worked example of section 9.3. -/
def glueRecipe : GlueRecipe := #v[⟨1000, 180⟩, ⟨2000, 200⟩, ⟨3000, 230⟩, ⟨4000, 250⟩]

/-- A line at a reference with the recipe in force at G1. -/
def gluing (ref : Nat) : State :=
  ({ line .running with gov := { Governor.resetWith false with mode := .running, reference := ref } } : State).setUnit 0
    { GlueRec.reset with active := some glueRecipe }

theorem test_met_TargetGapInterpolates :
    (∀ i j : Fin 4, i < j → (tget glueRecipe i).speed < (tget glueRecipe j).speed) ∧
      (gluing 999).gov.reference < (tget glueRecipe 0).speed ∧ (tget glueRecipe 3).speed ≤ (gluing 4000).gov.reference ∧
      (tget glueRecipe (Fin.castSucc 0)).speed ≤ (gluing 1000).gov.reference ∧
      (gluing 3999).gov.reference < (tget glueRecipe (Fin.succ 2)).speed ∧
      ((gluing 0).unit 1).active = none ∧ ((gluing 0).unit 0).active = some glueRecipe ∧
      (gluing 0).gov.mode ≠ .unconfigured ∧ (gluing 2450).targetGap glueRecipe = 213 := by decide

/-- A line whose glue unit G1 is in a state, with its roll, at a measured speed. -/
def unitIn (m : Mode) (st : GlueState) (applied : Bool) (measured : Nat) : State :=
  ({ line m with tracker := ⟨450000, 0, measured, 0⟩ } : State).setUnit 0
    { GlueRec.reset with state := st, applied := applied, commanded := some 200, timer := some 8 }

theorem test_met_GlueMovesEndOrFault :
    ((unitIn .running .lifted false 0).unit 0).state ≠ .moving ∧ ((unitIn .running .moving true 0).unit 0).applied = true ∧
      ((unitIn .running .moving false 250).unit 0).state = .moving ∧
      (unitIn .running .moving false 250).govCfg.glueLift + 50 ≤ (unitIn .running .moving false 250).tracker.measured ∧
      ¬((unitIn .running .moving false 249).govCfg.glueLift + 50 ≤ (unitIn .running .moving false 249).tracker.measured) ∧
      ¬(1 ≤ 0 ∧ 0 ≤ 4) ∧ ¬(1 ≤ 5 ∧ 5 ≤ 4) ∧ (line .unconfigured).gov.mode = .unconfigured ∧
      ((unitIn .stopped .fault false 0).unit 0).state = .fault ∧ (unitIn .stopped .fault false 0).gov.mode ≠ .unconfigured ∧
      ((unitIn .stopped .lifted false 0).unit 0).state ≠ .fault := by decide

/-- A part with all sections but ZONES. -/
def nearly (estop : Bool) : State :=
  { line .unconfigured with
    cfg := { (line .unconfigured).cfg with zones := none }, gov := Governor.resetWith estop }

theorem test_met_ConfigureChecksAndApplies :
    (line .running).sectionCheck (.stands (tfill 7 standCfg)) = some .wrongMode ∧
      (line .stopped).sectionCheck (.governor { govCfg with accelStep := 0 }) = some .badValue ∧
      (line .stopped).sectionCheck (.other 5) = some .badValue ∧ (line .stopped).gov.mode = .stopped ∧
      ({ booked with gov := (line .stopped).gov } : State).sectionCheck (.geometry geometry) = some .inUse ∧
      booked.book.orders ≠ [] ∧ (openOne (.run 0)).map.spans ≠ [] ∧
      (line .estopped).sectionCheck (.zones zonesCfg) = some .wrongMode ∧
      (line .stopped).sectionCheck (.geometry geometry) = none ∧
      (line .stopped).sectionCheck (.stands (tfill 7 standCfg)) = none ∧
      (line .stopped).sectionCheck (.dryend dryEnd) = none ∧ (line .running).sectionCheck (.zones zonesCfg) = none ∧
      (line .running).sectionCheck (.governor govCfg) = none ∧ (nearly true).gov.estopLine = true ∧
      (nearly false).sectionCheck (.zones zonesCfg) = none ∧ (nearly true).sectionCheck (.zones zonesCfg) = none ∧
      (after (exec (.configure 1 (.zones zonesCfg)) (nearly false))).map (fun t => (t.gov.mode, t.cfg.accepted.length)) =
        some (.stopped, 5) := by decide +kernel

theorem test_met_RunAndSetSpeed :
    (line .halted).gov.mode ≠ .stopped ∧ (line .stopped).gov.mode = .stopped ∧
      (∀ n : Stand, ((line .stopped).stand n).running.isSome = true) ∧ (line .stopped).stationState .a ≠ .fault ∧
      (line .stopped).stationState .b ≠ .fault ∧ (line .stopped).stacker.mode ≠ .blocked ∧
      ((lone .stopped .loaded 5 none).stand 0).running.isSome = false := by decide

theorem test_met_StopEntersStopping :
    (line .running).gov.mode = .running ∧ (slowing 100 true 0).gov.mode = .stopping ∧
      (line .halted).gov.mode ≠ .running ∧ (line .halted).gov.mode ≠ .stopping := by decide

/-- A line in ESTOPPED with the line level and a halt owed or not. -/
def stoppedHard (level owed : Bool) : State :=
  { line .estopped with gov := { Governor.resetWith level with mode := .estopped, haltOwed := owed } }

theorem test_met_EstopAndResume :
    State.reset.gov.mode = .unconfigured ∧ (stoppedHard true false).gov.mode = .estopped ∧
      (line .halted).gov.mode = .halted ∧ (line .halted).gov.mode ≠ .unconfigured ∧
      (line .halted).gov.mode ≠ .estopped ∧ (stoppedHard false false).gov.estopLine = false ∧
      (stoppedHard false false).gov.haltOwed = false ∧ (stoppedHard false true).gov.haltOwed = true ∧
      (line .running).gov.mode ≠ .halted ∧ ¬((line .running).gov.mode = .estopped) ∧
      (stoppedHard true false).gov.estopLine ≠ false ∧ (line .halted).cfg.geometry.isSome = true ∧
      (line .halted).dWet = 150000 ∧ ((599999 : Pos) - (line .halted).tracker.pos).toNat < (line .halted).dWet ∧
      (after (exec .estopAssert (line .halted))).map (fun t => (t.covers 599999, t.covers 600000)) = some (true, false) := by
  decide +kernel

/-- A part whose receiver is in a state with bytes received, a queue, and a request in hand or not. -/
def receiving (st : RxState) (bs : List Byte) (q : List Frame) (hand : Option (Byte × Byte)) : State :=
  { State.reset with link := { Link.resetWith .r115200 with rxState := st, rxBytes := bs, queue := q, inHand := hand } }

/-- The frame of READ_LINE with tag 1. -/
def readLineFrame : Frame := { kind := 0x07, tag := 1, payload := [] }

theorem test_met_FrameBytesReceivedAsSent :
    ({ readLineFrame with payload := List.replicate 1024 0 } : Frame).payload.length ≤ 1024 ∧
      (receiving .hunting [] [] (some (1, 1))).link.rxState = .hunting ∧
      (receiving .hunting [] [] (some (1, 1))).link.inHand.isSome = true ∧
      (receiving .hunting [] (List.replicate 3 readLineFrame) (some (1, 1))).link.queue.length < 4 := by
  exact ⟨List.length_replicate.le, rfl, rfl, by decide⟩

theorem test_met_RequestFrameSpellsCommand :
    Instr.wf (.setSpeed 1 65535) = true ∧ (encodeRequest (.setSpeed 1 65535)).isSome = true ∧
      decodeRequest { kind := 0x04, tag := 1, payload := [0xB8, 0x0B] } = .ok (.setSpeed 1 3000) := by
  refine ⟨by decide, by decide, rfl⟩

/-- The bytes of READ_LINE but for the last one. -/
def allButLast : List Byte := readLineFrame.wire.take 6

theorem test_met_ByteReceivedAndGap :
    State.reset.link.rxState = .hunting ∧ (receiving .header [0x5A] [] none).link.rxState ≠ .hunting ∧
      frameLength [0x5A, 0x01, 0x04] = 1025 ∧ frameLength [0x5A, 0x00, 0x04] = 1024 ∧
      ([0x5A, 0x00, 0x04] : List Byte).length = 3 ∧ frameLength [0x5A, 0, 0, 7, 1] = 0 ∧
      ([0x5A, 0, 0, 7, 1] : List Byte).length = 5 ∧ (receiving .payload [0x5A, 1, 0, 4, 1] [] none).link.rxState = .payload ∧
      (allButLast ++ [0]).length = 7 + frameLength (allButLast ++ [0]) ∧ checkAgrees (allButLast ++ [0]) = false ∧
      checkAgrees readLineFrame.wire = true ∧ readLineFrame.wire.take 6 = allButLast ∧
      frameOf readLineFrame.wire = readLineFrame ∧ tget Notices.reset.levels srcLink ≠ 7 ∧
      4 ≤ (receiving .check allButLast (List.replicate 4 readLineFrame) none).link.queue.length ∧
      (receiving .check allButLast [] none).link.inHand = none ∧
      (receiving .check allButLast [] (some (1, 1))).link.inHand.isSome = true := by decide +kernel

/-- A part whose transmitter sends, with a queue. -/
def sending (tx : Tx) (q : List Frame) : State :=
  { State.reset with link := { Link.resetWith .r115200 with tx := tx, queue := q, inHand := some (7, 1) } }

theorem test_met_LastByteFreesTransmitter :
    State.reset.link.tx = .idle ∧ (sending (.notice readLineFrame) []).link.tx = .notice readLineFrame ∧
      (sending (.reply readLineFrame) []).link.tx = .reply readLineFrame ∧
      (sending (.reply readLineFrame) []).link.queue = [] ∧
      (sending (.reply readLineFrame) [readLineFrame]).link.queue = readLineFrame :: [] := by decide

theorem test_met_SetLevelMovesSource :
    (21 < 22 ∨ 7 < 0) ∧ (21 < 1 ∨ 7 < 8) ∧ (21 : NoticeSource) ≠ 0 ∧ 7 ≤ 7 ∧ isCondition 21 = true ∧
      tget (tset Notices.reset.levels 21 7) 21 = 7 := by decide

theorem test_met_NoticeChoiceAndThreshold :
    tget (tset Notices.reset.waiting 0 true) 0 = true ∧ tget Notices.reset.waiting 0 = false ∧
      Notices.reset.choose = some 1 ∧ ({ Notices.reset with threshold := 1 } : Notices).choose = none ∧
      State.reset.link.tx = .idle ∧ State.reset.notices.choose = some 1 ∧ 7 < 8 ∧ 7 ≤ 7 := by decide

theorem test_met_ReadsAnswerAndChangeNothing :
    State.reset.order? 1 = none ∧ State.reset.completed? 1 = none ∧ (booked.order? 2).isSome = true ∧
      ¬(1 ≤ 0 ∧ 0 ≤ 7) ∧ ¬(1 ≤ 8 ∧ 8 ≤ 7) := by decide

end Sys2Proof.Tests
end

/-! What every event but a request leaves as it is through the end of a step, and the encoder counts of R1. -/

namespace Sys2Proof.Machine

/-! ### The steady part of the hub -/

/-- The core of a hub with the requests that wait: what the taking of any event but a request leaves as it is. -/
def Hub.steady (h : Hub) : Hub := { h.core with wild := h.wild.filter Ev.isRequest }

/-- The requests that wait are seen in the hub, since none of them is calm. -/
theorem steady_wild (s : State) : s.hub.steady.wild = s.inbox.filter Ev.isRequest := by
  have noncalm (e : Ev) : (e.isRequest && !e.calm) = e.isRequest := by cases e <;> rfl
  simp [Hub.steady, State.hub, List.filter_filter, noncalm]

theorem steady_wild_eq_nil {s : State} : s.hub.steady.wild = [] ↔ ∀ e ∈ s.inbox, e.isRequest = false := by
  simp [steady_wild, List.filter_eq_nil_iff]

theorem steady_pos (s : State) : s.hub.steady.tracker.pos = s.tracker.pos := rfl
theorem steady_backtrack (s : State) : s.hub.steady.tracker.backtrack = s.tracker.backtrack := rfl

/-- Equal steady parts are equal cores and equal waiting requests. -/
theorem steady_eq_iff (s t : State) :
    s.hub.steady = t.hub.steady ↔ s.hub.core = t.hub.core ∧ s.inbox.filter Ev.isRequest = t.inbox.filter Ev.isRequest := by
  rw [← steady_wild, ← steady_wild]
  constructor
  · intro h
    exact ⟨congrArg (fun x : Hub => { x with wild := [] }) h, congrArg Hub.wild h⟩
  · rintro ⟨hcore, hwild⟩
    calc s.hub.steady = { s.hub.core with wild := s.hub.steady.wild } := rfl
      _ = { t.hub.core with wild := t.hub.steady.wild } := by rw [hcore, hwild]
      _ = t.hub.steady := rfl

/-! ### State operations -/

theorem steady_with_measured (s : State) (v w : Nat) :
    ({ s with tracker := { s.tracker with measured := v, window := w } } : State).hub.steady = s.hub.steady := rfl

/-- The Governor's own fields are not in the steady part; the ESTOP line is. -/
theorem steady_with_gov (s : State) (g : Governor) (h : g.estopLine = s.gov.estopLine) :
    ({ s with gov := g } : State).hub.steady = s.hub.steady := by
  simp [Hub.steady, Hub.core, State.hub, h]

theorem steady_postAll (s : State) (es : List Ev) (h : ∀ e ∈ es, e.isRequest = false) :
    (s.postAll es).hub.steady = s.hub.steady := by
  rw [steady_eq_iff]
  have none_posted : es.filter Ev.isRequest = [] := by simpa [List.filter_eq_nil_iff] using h
  exact ⟨rfl, by simp [none_posted]⟩

theorem steady_post (s : State) (e : Ev) (h : e.isRequest = false) : (s.post e).hub.steady = s.hub.steady :=
  steady_postAll s [e] (by simpa using h)

/-- The free order of events that fall together is an order of these events. -/
theorem pickOrder_perm {α : Type} (fuel k : Nat) (l : List α) : (pickOrder fuel k l).Perm l := by
  fun_induction pickOrder fuel k l with
  | case1 | case2 | case3 => exact .refl _
  | case4 fuel k x y l rest i e he ih =>
    obtain ⟨hi, rfl⟩ := List.getElem?_eq_some_iff.mp he
    exact (ih.cons _).trans (List.getElem_cons_eraseIdx_perm hi)
  | case5 => exact .refl _

theorem steady_postTogether (s : State) (es : List Ev) (h : ∀ e ∈ es, e.isRequest = false) :
    (s.postTogether es).hub.steady = s.hub.steady := by
  unfold State.postTogether
  split
  · rfl
  · exact steady_post s _ (by simpa using h)
  · rw [hub_with_choice]
    exact steady_postAll s _ fun e he => h e ((pickOrder_perm _ _ _).mem_iff.mp he)

/-- Removing the first waiting event, when it is no request, leaves the steady part. -/
theorem steady_inbox_tail (s : State) (e : Ev) (l : List Ev) (hs : s.inbox = e :: l) (h : e.isRequest = false) :
    ({ s with inbox := l } : State).hub.steady = s.hub.steady := by
  rw [steady_eq_iff]
  exact ⟨rfl, by simp [hs, h]⟩

/-! ### The events that are not calm -/

@[simp] theorem steady_enterMode (s : State) (m : Mode) : (s.enterMode m).hub.steady = s.hub.steady := by
  unfold State.enterMode
  rw [steady_post _ _ rfl, hub_mark]
  exact steady_with_gov s _ rfl

@[simp] theorem steady_takeHalt (s : State) (n : Stand) (c : HaltCause) : (s.takeHalt n c).hub.steady = s.hub.steady := by
  simp only [State.takeHalt]
  split
  · rw [steady_enterMode]
    exact steady_with_gov s _ rfl
  · split
    · rfl
    · rw [hub_mark]
      exact steady_with_gov s _ rfl
  · rfl
  · rw [steady_enterMode]
    exact steady_with_gov s _ rfl
  · exact steady_with_gov s _ rfl
  · rfl

@[simp] theorem steady_webLoss (s : State) (n : Stand) (cause : FaultCause) :
    (s.webLoss n cause).hub.steady = s.hub.steady := by
  simp only [State.webLoss]
  split
  · rfl
  · rw [steady_post _ _ rfl, steady_post _ _ rfl, hub_openSpan, hub_closeSpan, hub_updStand]

@[simp] theorem steady_takeDecrement (s : State) (n : Stand) : (s.takeDecrement n).hub.steady = s.hub.steady := by
  simp only [State.takeDecrement]
  split
  · rw [hub_standsMarked]
    (repeat' split) <;> simp
  · rfl

@[simp] theorem steady_endStop (s : State) : s.endStop.hub.steady = s.hub.steady := by
  simp only [State.endStop]
  split
  · split
    · rw [steady_enterMode]
      exact steady_with_gov s _ rfl
    · rw [steady_enterMode]
  · rfl

@[simp] theorem steady_takeGovStep (s : State) : s.takeGovStep.hub.steady = s.hub.steady := by
  simp only [State.takeGovStep, steady_endStop, hub_markIf]
  exact steady_with_gov s _ rfl

@[simp] theorem steady_takePublish (s : State) : s.takePublish.hub.steady = s.hub.steady := by
  simp only [State.takePublish, hub_gluePublish, hub_pasteTests, steady_with_measured]

/-! ### The end of a step -/

/-- Every event but a request leaves the steady part: a calm one since it leaves the hub, the others each by its own rule. -/
theorem steady_handle (s : State) (e : Ev) (h : e.isRequest = false) : (s.handle e).hub.steady = s.hub.steady := by
  cases hc : e.calm with
  | true => rw [hub_handle s e hc]
  | false =>
    cases e with
    | decrement n => exact steady_takeDecrement s n
    | halt n c => exact steady_takeHalt s n c
    | publish => exact steady_takePublish s
    | govStep => exact steady_takeGovStep s
    | request f => cases h
    | _ => cases hc

theorem steady_drain (k : Nat) (s : State) (h : s.hub.steady.wild = []) :
    (State.drain k s).hub.steady = s.hub.steady := by
  induction k generalizing s with
  | zero => rfl
  | succ k ih =>
    cases hs : s.inbox with
    | nil => rw [drain_quiet _ _ hs]
    | cons e l =>
      have he : e.isRequest = false := steady_wild_eq_nil.mp h e (by simp [hs])
      have taken : (({ s with inbox := l }.handle e).refreshLimits).hub.steady = s.hub.steady := by
        rw [hub_refreshLimits, steady_handle _ _ he, steady_inbox_tail s e l hs he]
      rw [drain_cons k s e l hs, ih _ (by rw [taken, h]), taken]

/-- The end of a step in which no request waits leaves the steady part, and so E and the backtrack count. -/
theorem steady_finish (s : State) (h : ∀ e ∈ s.inbox, e.isRequest = false) : s.finish.hub.steady = s.hub.steady := by
  have drained : (State.drain Config.cascadeBound s.refreshLimits).hub.steady = s.hub.steady := by
    rw [steady_drain, hub_refreshLimits]
    rwa [hub_refreshLimits, steady_wild_eq_nil]
  unfold State.finish
  rw [hub_offerNotice, ← drained, steady_eq_iff]
  refine ⟨rfl, ?_⟩
  rw [← steady_wild (State.drain _ _), drained, steady_wild_eq_nil.mpr h]
  rfl

/-! ### Encoder counts (R1) -/

/-- R1: a forward count with backtrack left spends one count of it and does nothing else but count in the window. -/
theorem takeForward_of_backtrack_pos (s : State) (h : 0 < s.tracker.backtrack) :
    s.takeForward = { s with
      tracker := { s.tracker with backtrack := s.tracker.backtrack - 1, window := s.tracker.window + 1 } } := by
  simp [State.takeForward, h]

theorem isRequest_of_mem_reachedCrossings {s : State} {e : Ev} (h : e ∈ s.reachedCrossings) : e.isRequest = false := by
  obtain ⟨p, -, hp⟩ := List.mem_filterMap.mp h
  split at hp
  · split at hp
    · cases hp
      rfl
    · cases hp
  · cases hp

/-- R1: a forward count with no backtrack left raises E; what it posts are crossings, decrements and the board in motion. -/
theorem steady_takeForward_of_backtrack_zero (s : State) (h : s.tracker.backtrack = 0) :
    s.takeForward.hub.steady = ({ s with tracker := { s.tracker with pos := s.tracker.pos + 1 } } : State).hub.steady := by
  simp only [State.takeForward, h, Nat.lt_irrefl, if_false]
  rw [steady_postTogether, hub_with_regs, hub_each _ _ _ hub_drawStand]
  · rfl
  · intro e he
    simp only [List.mem_append, List.mem_map] at he
    obtain (hcrossing | ⟨n, -, rfl⟩) | hmotion := he
    · exact isRequest_of_mem_reachedCrossings hcrossing
    · rfl
    · split at hmotion
      · cases hmotion
      · cases List.mem_singleton.mp hmotion
        rfl

/-- Where a forward count leaves E and the backtrack count, before the end of the step, with no request among what it posts. -/
theorem takeForward_tracker (s : State) (hs : s.inbox = []) :
    (∀ e ∈ s.takeForward.inbox, e.isRequest = false) ∧
    (0 < s.tracker.backtrack →
      s.takeForward.tracker.backtrack = s.tracker.backtrack - 1 ∧ s.takeForward.tracker.pos = s.tracker.pos) ∧
    (s.tracker.backtrack = 0 →
      s.takeForward.tracker.backtrack = 0 ∧ s.takeForward.tracker.pos = s.tracker.pos + 1) := by
  obtain hb | hb := Nat.eq_zero_or_pos s.tracker.backtrack
  · have e := steady_takeForward_of_backtrack_zero s hb
    refine ⟨?_, fun h => by omega, fun _ => ⟨?_, ?_⟩⟩
    · rw [← steady_wild_eq_nil, e, steady_wild_eq_nil]
      simp [hs]
    · rw [← steady_backtrack, e, steady_backtrack, hb]
    · rw [← steady_pos, e, steady_pos]
  · rw [takeForward_of_backtrack_pos s hb]
    exact ⟨by simp [hs], fun _ => ⟨rfl, rfl⟩, fun h => by omega⟩

theorem exec_forwardCount (s : State) : exec .forwardCount s = .next (State.takeForward { s with inbox := [] }).finish := rfl

theorem exec_reverseCount (s : State) : exec .reverseCount s = .next (State.takeReverse { s with inbox := [] }).quietEnd :=
  run_quiet s State.takeReverse rfl

/-- Settles O13: what the forward count posts holds no request, so the end of its step leaves E and the backtrack count as the count
set them; a reverse count posts nothing. -/
theorem encoderCountsMoveE : Obligations.EncoderCountsMoveE := by
  intro s
  obtain ⟨hposted, hback, hadvance⟩ := takeForward_tracker { s with inbox := [] } rfl
  have ended := steady_finish _ hposted
  refine ⟨⟨_, exec_forwardCount s, ?_⟩, ?_⟩
  · rw [← steady_backtrack (State.finish _), ← steady_pos (State.finish _), ended]
    exact ⟨hback, hadvance⟩
  · have atTop : min Config.backtrackTop (s.tracker.backtrack + 1) =
        if s.tracker.backtrack < 16777215 then s.tracker.backtrack + 1 else 16777215 := by
      unfold Config.backtrackTop
      split <;> omega
    rw [exec_reverseCount, State.takeReverse, atTop]

end Sys2Proof.Machine

/-! The grade table's requests (R21, R22) and the ORDER limit of a grade of cap 0 (R41). -/

namespace Sys2Proof.Machine

/-! ### The grade table at a code -/

@[simp] theorem grade?_fin (s : State) (code : Fin 64) : s.grade? code.val = tget s.book.grades code := by
  simp [State.grade?]

@[simp] theorem namingOf_fin (s : State) (code : Fin 64) : s.namingOf code.val = tget s.book.naming code := by
  simp [State.namingOf]

/-! ### SET_GRADE (R21) -/

theorem reqSetGrade_badValue {code : Nat} {g : Grade} (s : State) (h : 64 ≤ code ∨ Grade.inRange g = false) :
    s.reqSetGrade code g = (s, .just .badValue) := by
  unfold State.reqSetGrade
  obtain hcode | hg := h
  · rw [dif_neg (by omega)]
  · simp [hg]

theorem reqSetGrade_inUse {code : Nat} {g : Grade} {s : State} (hcode : code < 64) (hg : Grade.inRange g = true)
    (huse : s.namingOf code ≠ 0) : s.reqSetGrade code g = (s, .just .inUse) := by
  simp [State.reqSetGrade, hcode, hg, huse]

/-- R21: a grade in range, for a code no active order names, replaces the entry of its code. -/
theorem reqSetGrade_ok {code : Fin 64} {g : Grade} {s : State} (hg : Grade.inRange g = true)
    (hfree : tget s.book.naming code = 0) :
    s.reqSetGrade code.val g =
      ({ s with book := { s.book with grades := tset s.book.grades code (some g) } }, .okWith (u8 code.val)) := by
  simp [State.reqSetGrade, hg, hfree]

theorem exec_setGrade (tag : Byte) (code : Nat) (g : Grade) (s : State) :
    exec (.setGrade tag code g) s = s.run (State.serve 0x18 tag (fun t => t.reqSetGrade code g)) := rfl

/-! ### READ_GRADE (R22) -/

theorem reqReadGrade_badValue {code : Nat} (s : State) (h : 64 ≤ code) : s.reqReadGrade code = (s, .just .badValue) :=
  if_pos h

theorem reqReadGrade_notFound {code : Fin 64} {s : State} (h : tget s.book.grades code = none) :
    s.reqReadGrade code.val = (s, .just .notFound) := by
  simp [State.reqReadGrade, h]

theorem reqReadGrade_ok {code : Fin 64} {g : Grade} {s : State} (h : tget s.book.grades code = some g) :
    s.reqReadGrade code.val = (s, .okWith (Grade.enc g ++ u32 (tget s.book.naming code))) := by
  simp [State.reqReadGrade, h]

theorem exec_readGrade (tag : Byte) (code : Nat) (s : State) :
    exec (.readGrade tag code) s = s.run (State.serve 0x19 tag (fun t => t.reqReadGrade code)) := rfl

/-! ### The ORDER limit (R41) -/

/-- The lowest of some speeds is the library's minimum of a list. -/
theorem lowest_eq_min? (l : List Nat) : lowest l = l.min? := by
  cases l <;> rfl

theorem lowest_eq_zero_of_mem {l : List Nat} (h : 0 ∈ l) : lowest l = some 0 := by
  rw [lowest_eq_min?, List.min?_eq_some_iff]
  exact ⟨h, fun _ _ => Nat.zero_le _⟩

/-- R21, R41: an order in the limit whose grade has cap 0 brings the limit to 0. -/
theorem orderLimit_eq_zero {s : State} {o : Order} {g : Grade} (hmem : o ∈ s.book.orders)
    (hin : s.inOrderLimit o = true) (hgrade : s.grade? o.spec.grade = some g) (hcap : g.cap = 0) :
    s.orderLimit = some 0 := by
  refine lowest_eq_zero_of_mem (List.mem_flatMap.mpr ⟨o, List.mem_filter.mpr ⟨hmem, hin⟩, ?_⟩)
  simp [hgrade, hcap]

/-- Settles O22: each case is the owner's answer to the request and the end of a step that posts no event; the limit of a cap of 0 is
the minimum of a list that holds 0. -/
theorem gradesAreWrittenAndRead : Obligations.GradesAreWrittenAndRead := by
  intro tag s
  refine ⟨fun code g => ⟨fun hbad => ?_, fun hcode hg huse => ?_⟩, fun code g hg hfree => ?_,
    fun o g hmem hin hgrade hcap => orderLimit_eq_zero hmem hin hgrade hcap, fun code hcode => ?_, fun code => ?_⟩
  · rw [exec_setGrade]
    exact run_just (by decide) (reqSetGrade_badValue _ hbad) rfl
  · rw [exec_setGrade]
    exact run_just (by decide) (reqSetGrade_inUse hcode hg huse) rfl
  · rw [exec_setGrade]
    exact run_okWith (by decide) (reqSetGrade_ok hg hfree) rfl
  · rw [exec_readGrade]
    exact run_just (by decide) (reqReadGrade_badValue _ hcode) rfl
  · rw [exec_readGrade]
    cases hentry : tget s.book.grades code with
    | none => exact run_just (by decide) (reqReadGrade_notFound hentry) rfl
    | some g => exact run_okWith (by decide) (reqReadGrade_ok hentry) rfl

end Sys2Proof.Machine

/-! SET_LEVEL and the level of a notice source (R203). -/

namespace Sys2Proof.Machine

/-! ### The Notice Unit at a new level (R203) -/

/-- R203: a source set to 7 is cleared, whatever it was. -/
theorem setLevel_seven (u : Notices) (i : NoticeSource) :
    u.setLevel i 7 = { u with levels := tset u.levels i 7 }.clear i := by
  rw [Notices.setLevel, if_pos rfl]

/-- R203: a condition source moved from 7 to a lower level becomes pending. -/
theorem setLevel_condition_from_seven {u : Notices} {i : NoticeSource} {v : Nat} (hv : v ≠ 7)
    (hcond : isCondition i = true ∧ tget u.levels i = 7) :
    u.setLevel i v = { u with levels := tset u.levels i v, waiting := tset u.waiting i true } := by
  rw [Notices.setLevel, if_neg hv, if_pos hcond]

/-- R203: an event source, or a condition source whose level was not 7, takes a level below 7 and keeps all else. -/
theorem setLevel_level_only {u : Notices} {i : NoticeSource} {v : Nat} (hv : v ≠ 7)
    (hother : ¬(isCondition i = true ∧ tget u.levels i = 7)) :
    u.setLevel i v = { u with levels := tset u.levels i v } := by
  rw [Notices.setLevel, if_neg hv, if_neg hother]

/-! ### SET_LEVEL (R203) -/

theorem reqSetLevel_badValue {k v : Nat} (s : State) (h : 21 < k ∨ 7 < v ∨ k = 0) :
    s.reqSetLevel k v = (s, .just .badValue) := by
  unfold State.reqSetLevel
  split
  · exact if_pos (by omega)
  · rfl

theorem reqSetLevel_ok {i : NoticeSource} {v : Nat} (s : State) (hi : i ≠ 0) (hv : v ≤ 7) :
    s.reqSetLevel i.val v =
      ({ s with notices := s.notices.setLevel i v },
        .okWith (u8 i.val ++ u8 v ++ encBool (tget (s.notices.setLevel i v).waiting i))) := by
  have hpos : i.val ≠ 0 := Fin.val_ne_zero_iff.mpr hi
  have accepted : ¬(i.val = 0 ∨ 7 < v) := by omega
  rw [State.reqSetLevel, dif_pos i.isLt, if_neg accepted]

theorem exec_setLevel (tag : Byte) (k v : Nat) (s : State) :
    exec (.setLevel tag k v) s = s.run (State.serve 0x58 tag (fun t => t.reqSetLevel k v)) := rfl

/-- Settles O58: a value out of range leaves the state as heard, and a level taken is one of the three moves of R203; neither posts an
event, so the reply ends the step. -/
theorem setLevelMovesSource : Obligations.SetLevelMovesSource := by
  intro tag s
  refine ⟨fun k v hbad => ?_, fun i v hi hv => ?_⟩
  · rw [exec_setLevel]
    exact run_just (by decide) (reqSetLevel_badValue _ hbad) rfl
  · intro old u
    have moved : old.setLevel i v = u := by
      by_cases hseven : v = 7
      · subst hseven
        exact setLevel_seven old i
      · by_cases hcond : isCondition i = true ∧ tget old.levels i = 7
        · rw [setLevel_condition_from_seven hseven hcond]
          simp only [u, if_neg hseven, if_pos hcond]
        · rw [setLevel_level_only hseven hcond]
          simp only [u, if_neg hseven, if_neg hcond]
    rw [exec_setLevel, ← moved]
    exact run_okWith (by decide) (reqSetLevel_ok _ hi hv) rfl

end Sys2Proof.Machine
/-! The parts of the state each operation can touch: what lies outside them it leaves as it is. -/

namespace Sys2Proof.Machine

/-! ### Forgetting parts of the state -/

/-- The parts of the state. -/
inductive Part
  | pending | inbox | choice | tracker | regs | map | book | cutoff | slitter | stacker | stands | splice | scanner | heat | glue
  | gov | cfg | limits | link | notices
deriving DecidableEq

/-- The state with the parts in `F` forgotten: two states agree outside `F` when they are the same erased. -/
def State.erase (F : List Part) (s : State) : State :=
  { pending := if .pending ∈ F then [] else s.pending
    inbox := if .inbox ∈ F then [] else s.inbox
    choice := if .choice ∈ F then 0 else s.choice
    tracker := if .tracker ∈ F then Tracker.reset else s.tracker
    regs := if .regs ∈ F then Regs.reset else s.regs
    map := if .map ∈ F then State.reset.map else s.map
    book := if .book ∈ F then OrderBook.reset else s.book
    cutoff := if .cutoff ∈ F then Cutoff.reset else s.cutoff
    slitter := if .slitter ∈ F then Slitter.reset else s.slitter
    stacker := if .stacker ∈ F then Stacker.reset else s.stacker
    stands := if .stands ∈ F then State.reset.stands else s.stands
    splice := if .splice ∈ F then State.reset.splice else s.splice
    scanner := if .scanner ∈ F then Scanner.reset else s.scanner
    heat := if .heat ∈ F then State.reset.heat else s.heat
    glue := if .glue ∈ F then Glue.reset else s.glue
    gov := if .gov ∈ F then State.reset.gov else s.gov
    cfg := if .cfg ∈ F then Sections.reset else s.cfg
    limits := if .limits ∈ F then Limits.reset else s.limits
    link := if .link ∈ F then State.reset.link else s.link
    notices := if .notices ∈ F then Notices.reset else s.notices }

/-- A state made of two: the parts in `F` from the second, the others from the first. -/
def State.patch (F : List Part) (s t : State) : State :=
  { pending := if .pending ∈ F then t.pending else s.pending
    inbox := if .inbox ∈ F then t.inbox else s.inbox
    choice := if .choice ∈ F then t.choice else s.choice
    tracker := if .tracker ∈ F then t.tracker else s.tracker
    regs := if .regs ∈ F then t.regs else s.regs
    map := if .map ∈ F then t.map else s.map
    book := if .book ∈ F then t.book else s.book
    cutoff := if .cutoff ∈ F then t.cutoff else s.cutoff
    slitter := if .slitter ∈ F then t.slitter else s.slitter
    stacker := if .stacker ∈ F then t.stacker else s.stacker
    stands := if .stands ∈ F then t.stands else s.stands
    splice := if .splice ∈ F then t.splice else s.splice
    scanner := if .scanner ∈ F then t.scanner else s.scanner
    heat := if .heat ∈ F then t.heat else s.heat
    glue := if .glue ∈ F then t.glue else s.glue
    gov := if .gov ∈ F then t.gov else s.gov
    cfg := if .cfg ∈ F then t.cfg else s.cfg
    limits := if .limits ∈ F then t.limits else s.limits
    link := if .link ∈ F then t.link else s.link
    notices := if .notices ∈ F then t.notices else s.notices }

theorem eq_patch_of_erase {F : List Part} {s t : State} (h : t.erase F = s.erase F) : t = s.patch F t := by
  have part {α : Type} {p : Part} {f : State → α} {x : α}
      (e : (if p ∈ F then x else f t) = if p ∈ F then x else f s) : f t = if p ∈ F then f t else f s := by
    split <;> simp_all
  simp only [State.erase, State.mk.injEq] at h
  obtain ⟨h1, h2, h3, h4, h5, h6, h7, h8, h9, h10, h11, h12, h13, h14, h15, h16, h17, h18, h19, h20⟩ := h
  simp only [State.patch, ← part h1, ← part h2, ← part h3, ← part h4, ← part h5, ← part h6, ← part h7, ← part h8, ← part h9,
    ← part h10, ← part h11, ← part h12, ← part h13, ← part h14, ← part h15, ← part h16, ← part h17, ← part h18, ← part h19,
    ← part h20]

/-! ### Reading a part that was not forgotten -/

section

variable {F : List Part} {s t : State} (h : t.erase F = s.erase F)
include h

theorem tracker_of_erase (hF : .tracker ∉ F) : t.tracker = s.tracker := by
  simpa [State.erase, hF] using congrArg State.tracker h

theorem map_of_erase (hF : .map ∉ F) : t.map = s.map := by
  simpa [State.erase, hF] using congrArg State.map h

theorem book_of_erase (hF : .book ∉ F) : t.book = s.book := by
  simpa [State.erase, hF] using congrArg State.book h

theorem stacker_of_erase (hF : .stacker ∉ F) : t.stacker = s.stacker := by
  simpa [State.erase, hF] using congrArg State.stacker h

theorem stands_of_erase (hF : .stands ∉ F) : t.stands = s.stands := by
  simpa [State.erase, hF] using congrArg State.stands h

theorem heat_of_erase (hF : .heat ∉ F) : t.heat = s.heat := by
  simpa [State.erase, hF] using congrArg State.heat h

theorem gov_of_erase (hF : .gov ∉ F) : t.gov = s.gov := by
  simpa [State.erase, hF] using congrArg State.gov h

theorem cfg_of_erase (hF : .cfg ∉ F) : t.cfg = s.cfg := by
  simpa [State.erase, hF] using congrArg State.cfg h

theorem limits_of_erase (hF : .limits ∉ F) : t.limits = s.limits := by
  simpa [State.erase, hF] using congrArg State.limits h

theorem link_of_erase (hF : .link ∉ F) : t.link = s.link := by
  simpa [State.erase, hF] using congrArg State.link h

end

variable {F : List Part}

/-! ### Single parts -/
@[simp] theorem erase_with_pending (s : State) (x : List Instr)
    (h : .pending ∈ F) : ({ s with pending := x } : State).erase F = s.erase F := by
  simp [State.erase, h]
@[simp] theorem erase_with_inbox (s : State) (x : List Ev)
    (h : .inbox ∈ F) : ({ s with inbox := x } : State).erase F = s.erase F := by
  simp [State.erase, h]
@[simp] theorem erase_with_choice (s : State) (x : Nat)
    (h : .choice ∈ F) : ({ s with choice := x } : State).erase F = s.erase F := by
  simp [State.erase, h]
@[simp] theorem erase_with_tracker (s : State) (x : Tracker)
    (h : .tracker ∈ F) : ({ s with tracker := x } : State).erase F = s.erase F := by
  simp [State.erase, h]
@[simp] theorem erase_with_regs (s : State) (x : Regs)
    (h : .regs ∈ F) : ({ s with regs := x } : State).erase F = s.erase F := by
  simp [State.erase, h]
@[simp] theorem erase_with_map (s : State) (x : RejectMap)
    (h : .map ∈ F) : ({ s with map := x } : State).erase F = s.erase F := by
  simp [State.erase, h]
@[simp] theorem erase_with_book (s : State) (x : OrderBook)
    (h : .book ∈ F) : ({ s with book := x } : State).erase F = s.erase F := by
  simp [State.erase, h]
@[simp] theorem erase_with_cutoff (s : State) (x : Cutoff)
    (h : .cutoff ∈ F) : ({ s with cutoff := x } : State).erase F = s.erase F := by
  simp [State.erase, h]
@[simp] theorem erase_with_slitter (s : State) (x : Slitter)
    (h : .slitter ∈ F) : ({ s with slitter := x } : State).erase F = s.erase F := by
  simp [State.erase, h]
@[simp] theorem erase_with_stacker (s : State) (x : Stacker)
    (h : .stacker ∈ F) : ({ s with stacker := x } : State).erase F = s.erase F := by
  simp [State.erase, h]
@[simp] theorem erase_with_stands (s : State) (x : Vector StandRec 7)
    (h : .stands ∈ F) : ({ s with stands := x } : State).erase F = s.erase F := by
  simp [State.erase, h]
@[simp] theorem erase_with_splice (s : State) (x : Vector SpliceRec 7)
    (h : .splice ∈ F) : ({ s with splice := x } : State).erase F = s.erase F := by
  simp [State.erase, h]
@[simp] theorem erase_with_scanner (s : State) (x : Scanner)
    (h : .scanner ∈ F) : ({ s with scanner := x } : State).erase F = s.erase F := by
  simp [State.erase, h]
@[simp] theorem erase_with_heat (s : State) (x : Heat)
    (h : .heat ∈ F) : ({ s with heat := x } : State).erase F = s.erase F := by
  simp [State.erase, h]
@[simp] theorem erase_with_glue (s : State) (x : Glue)
    (h : .glue ∈ F) : ({ s with glue := x } : State).erase F = s.erase F := by
  simp [State.erase, h]
@[simp] theorem erase_with_gov (s : State) (x : Governor)
    (h : .gov ∈ F) : ({ s with gov := x } : State).erase F = s.erase F := by
  simp [State.erase, h]
@[simp] theorem erase_with_cfg (s : State) (x : Sections)
    (h : .cfg ∈ F) : ({ s with cfg := x } : State).erase F = s.erase F := by
  simp [State.erase, h]
@[simp] theorem erase_with_limits (s : State) (x : Limits)
    (h : .limits ∈ F) : ({ s with limits := x } : State).erase F = s.erase F := by
  simp [State.erase, h]
@[simp] theorem erase_with_link (s : State) (x : Link)
    (h : .link ∈ F) : ({ s with link := x } : State).erase F = s.erase F := by
  simp [State.erase, h]
@[simp] theorem erase_with_notices (s : State) (x : Notices)
    (h : .notices ∈ F) : ({ s with notices := x } : State).erase F = s.erase F := by
  simp [State.erase, h]

/-! ### Events, notices and registrations -/

@[simp] theorem erase_post (s : State) (e : Ev) (h : .inbox ∈ F) : (s.post e).erase F = s.erase F := erase_with_inbox s _ h

@[simp] theorem erase_postFirst (s : State) (e : Ev) (h : .inbox ∈ F) : (s.postFirst e).erase F = s.erase F :=
  erase_with_inbox s _ h

@[simp] theorem erase_postAll (s : State) (es : List Ev) (h : .inbox ∈ F) : (s.postAll es).erase F = s.erase F :=
  erase_with_inbox s _ h

@[simp] theorem erase_raise (s : State) (i : NoticeSource) (d : EventData) (h : .notices ∈ F) :
    (s.raise i d).erase F = s.erase F := erase_with_notices s _ h

@[simp] theorem erase_mark (s : State) (i : NoticeSource) (h : .notices ∈ F) : (s.mark i).erase F = s.erase F :=
  erase_with_notices s _ h

@[simp] theorem erase_setStand (s : State) (n : Stand) (r : StandRec)
    (h : .stands ∈ F) : (s.setStand n r).erase F = s.erase F :=
  erase_with_stands s _ h

@[simp] theorem erase_setSpl (s : State) (n : Stand) (r : SpliceRec) (h : .splice ∈ F) : (s.setSpl n r).erase F = s.erase F :=
  erase_with_splice s _ h

/-- An operation at each item of a list in turn touches what it touches at one. -/
@[simp] theorem erase_each {α : Type} (l : List α) (f : α → State → State) (s : State)
    (h : ∀ x t, (f x t).erase F = t.erase F) : (s.each l f).erase F = s.erase F := by
  unfold State.each
  induction l generalizing s with
  | nil => rfl
  | cons x l ih => rw [List.foldl_cons, ih, h]

@[simp] theorem erase_reportMapChange (s : State) (h : [.inbox, .choice] ⊆ F) : s.reportMapChange.erase F = s.erase F := by
  simp only [List.cons_subset, List.nil_subset, and_true] at h
  obtain ⟨l, r, c, -, e, -⟩ := s.reportMapChange_eq
  rw [e]
  simp [State.erase, h]

@[simp] theorem erase_setSpans (s : State) (l : List Span) (age : Nat) (h : [.map, .inbox, .choice] ⊆ F) :
    (s.setSpans l age).erase F = s.erase F := by
  simp only [List.cons_subset, List.nil_subset, and_true] at h
  simp only [State.setSpans]
  split <;> simp [h]

@[simp] theorem erase_raiseMap (s : State) (after : Span) (kind : SpanKind) (src : Source) (h : .notices ∈ F) :
    (s.raiseMap after kind src).erase F = s.erase F := by
  simp [State.raiseMap, h]
@[simp] theorem erase_setUnit (s : State) (u : GlueUnit) (r : GlueRec) (h : .glue ∈ F) :
    (s.setUnit u r).erase F = s.erase F := by
  simp [State.setUnit, h]

@[simp] theorem erase_withdraw (s : State) (p : Purpose) (h : [.regs, .inbox] ⊆ F) : (s.withdraw p).erase F = s.erase F := by
  simp only [List.cons_subset, List.nil_subset, and_true] at h
  simp [State.withdraw, State.erase, h]

@[simp] theorem erase_markIf (s : State) (changed : Bool) (i : NoticeSource) (h : .notices ∈ F) :
    (s.markIf changed i).erase F = s.erase F := by
  simp only [State.markIf]
  (repeat' split) <;> simp [h]

@[simp] theorem erase_register (s : State) (p : Purpose) (at_ : Pos) (h : [.regs, .inbox] ⊆ F) :
    (s.register p at_).erase F = s.erase F := by
  simp only [List.cons_subset, List.nil_subset, and_true] at h
  unfold State.register
  split
  · simp [h]
  · rw [erase_with_regs (s.withdraw p) _ h.1, erase_withdraw _ _ (by simp [h])]

@[simp] theorem erase_addSpanTell (s : State) (kind : SpanKind) (src : Source) (start stop : Pos)
    (h : [.map, .inbox, .choice, .notices] ⊆ F) :
    (s.addSpanTell kind src start stop).1.erase F = s.erase F := by
  simp only [List.cons_subset, List.nil_subset, and_true] at h
  simp only [State.addSpanTell]
  (repeat' split) <;> simp [h]

@[simp] theorem erase_addSpan (s : State) (kind : SpanKind) (src : Source) (start stop : Pos)
    (h : [.map, .inbox, .choice, .notices] ⊆ F) :
    (s.addSpan kind src start stop).erase F = s.erase F := by
  simp only [List.cons_subset, List.nil_subset, and_true] at h
  simp [State.addSpan, h]

@[simp] theorem erase_openSpan (s : State) (kind : SpanKind) (src : Source) (start : Pos)
    (h : [.map, .inbox, .choice, .notices] ⊆ F) :
    (s.openSpan kind src start).erase F = s.erase F := by
  simp only [List.cons_subset, List.nil_subset, and_true] at h
  simp only [State.openSpan]
  (repeat' split) <;> simp [h]

@[simp] theorem erase_closeSpan (s : State) (src : Source) (at_ : Pos) (h : [.map, .inbox, .choice] ⊆ F) :
    (s.closeSpan src at_).erase F = s.erase F := by
  simp only [List.cons_subset, List.nil_subset, and_true] at h
  simp only [State.closeSpan]
  (repeat' split) <;> simp [h]

@[simp] theorem erase_prune (s : State) (c : Pos) (h : [.map, .inbox, .choice] ⊆ F) : (s.prune c).erase F = s.erase F := by
  simp only [List.cons_subset, List.nil_subset, and_true] at h
  simp [State.prune, h]

@[simp] theorem erase_updateOrder (s : State) (id : Nat) (f : Order → Order) (h : .book ∈ F) :
    (s.updateOrder id f).erase F = s.erase F := erase_with_book s _ h

@[simp] theorem erase_boundaryActions (s : State) (o next : Order) (h : .inbox ∈ F) :
    (s.boundaryActions o next).erase F = s.erase F := by
  simp only [State.boundaryActions]
  (repeat' split) <;> simp [h]

@[simp] theorem erase_freezeOrder (s : State) (o : Order) (h : [.book, .inbox, .notices] ⊆ F) :
    (s.freezeOrder o).erase F = s.erase F := by
  simp only [List.cons_subset, List.nil_subset, and_true] at h
  simp only [State.freezeOrder]
  (repeat' split) <;> simp [h]

@[simp] theorem erase_followFreeze (fuel : Nat) (s : State) (h : [.book, .regs, .inbox, .notices] ⊆ F) :
    (State.followFreeze fuel s).erase F = s.erase F := by
  simp only [List.cons_subset, List.nil_subset, and_true] at h
  induction fuel generalizing s with
  | zero => rfl
  | succ k ih =>
    simp only [State.followFreeze]
    (repeat' split) <;> simp [ih, h]

@[simp] theorem erase_updateFreeze (s : State) (h : [.book, .regs, .inbox, .notices] ⊆ F) :
    s.updateFreeze.erase F = s.erase F := by
  simp only [List.cons_subset, List.nil_subset, and_true] at h
  simp [State.updateFreeze, h]

@[simp] theorem erase_placementPass (s : State) (h : [.book, .regs, .inbox, .notices] ⊆ F) :
    s.placementPass.erase F = s.erase F := by
  simp only [List.cons_subset, List.nil_subset, and_true] at h
  simp only [State.placementPass]
  (repeat' split) <;> simp [h]

@[simp] theorem erase_takeStartReport (s : State) (id : Nat) (h : [.book, .inbox] ⊆ F) :
    (s.takeStartReport id).erase F = s.erase F := by
  simp only [List.cons_subset, List.nil_subset, and_true] at h
  simp only [State.takeStartReport]
  (repeat' split) <;> simp [h]

@[simp] theorem erase_takePositionReport (s : State) (id : Nat) (isEnd : Bool) (h : [.book, .inbox] ⊆ F) :
    (s.takePositionReport id isEnd).erase F = s.erase F := by
  simp only [List.cons_subset, List.nil_subset, and_true] at h
  simp only [State.takePositionReport]
  (repeat' split) <;> simp [h]

@[simp] theorem erase_takeSheetReport (s : State) (id : Nat) (m : Nat) (cls : SheetClass) (long : Bool) (h : .book ∈ F) :
    (s.takeSheetReport id m cls long).erase F = s.erase F := by
  simp only [State.takeSheetReport]
  (repeat' split) <;> simp [h]

@[simp] theorem erase_takeGoodReport (s : State) (id : Nat) (h : .book ∈ F) :
    (s.takeGoodReport id).erase F = s.erase F := by
  simp [State.takeGoodReport, h]

@[simp] theorem erase_takeOverflowReport (s : State) (id : Nat) (h : .book ∈ F) :
    (s.takeOverflowReport id).erase F = s.erase F := by
  simp [State.takeOverflowReport, h]

@[simp] theorem erase_takeStackReport (s : State) (id : Nat) (h : [.book, .notices] ⊆ F) :
    (s.takeStackReport id).erase F = s.erase F := by
  simp only [List.cons_subset, List.nil_subset, and_true] at h
  simp only [State.takeStackReport]
  (repeat' split) <;> simp [h]

@[simp] theorem erase_takeEndReport (s : State) (id : Nat) (h : [.book, .inbox, .notices] ⊆ F) :
    (s.takeEndReport id).erase F = s.erase F := by
  simp only [List.cons_subset, List.nil_subset, and_true] at h
  simp only [State.takeEndReport]
  (repeat' split) <;> simp [h]

@[simp] theorem erase_headActions (s : State) (o : Order) (last : Option Order) (h : [.inbox, .notices] ⊆ F) :
    (s.headActions o last).erase F = s.erase F := by
  simp only [List.cons_subset, List.nil_subset, and_true] at h
  simp only [State.headActions]
  (repeat' split) <;> simp [h]

@[simp] theorem erase_setCut (s : State) (g : Segment) (p : Pos) (h : [.cutoff, .regs, .inbox] ⊆ F) :
    (s.setCut g p).erase F = s.erase F := by
  simp only [List.cons_subset, List.nil_subset, and_true] at h
  simp [State.setCut, h]

@[simp] theorem erase_rateNow (s : State) (h : .cutoff ∈ F) : s.rateNow.erase F = s.erase F := by
  simp [State.rateNow, h]

@[simp] theorem erase_loadGrid (s : State) (o : Order) (h : [.cutoff, .regs, .inbox] ⊆ F) :
    (s.loadGrid o).erase F = s.erase F := by
  simp only [List.cons_subset, List.nil_subset, and_true] at h
  simp [State.loadGrid, h]

@[simp] theorem erase_wasteFrom (s : State) (c : Pos) (h : [.cutoff, .regs, .inbox] ⊆ F) :
    (s.wasteFrom c).erase F = s.erase F := by
  simp only [List.cons_subset, List.nil_subset, and_true] at h
  simp [State.wasteFrom, h]

@[simp] theorem erase_enterWaste (s : State) (c : Pos) (h : [.cutoff, .regs, .inbox] ⊆ F) :
    (s.enterWaste c).erase F = s.erase F := by
  simp only [List.cons_subset, List.nil_subset, and_true] at h
  simp [State.enterWaste, h]

@[simp] theorem erase_takeHeadStart (s : State) (h : [.cutoff, .regs, .inbox] ⊆ F) :
    s.takeHeadStart.erase F = s.erase F := by
  simp only [List.cons_subset, List.nil_subset, and_true] at h
  simp only [State.takeHeadStart]
  (repeat' split) <;> simp [h]

@[simp] theorem erase_fireCut (s : State) (c : Pos) (h : [.cutoff, .inbox] ⊆ F) : (s.fireCut c).erase F = s.erase F := by
  simp only [List.cons_subset, List.nil_subset, and_true] at h
  simp [State.fireCut, h]

@[simp] theorem erase_skipCut (s : State) (c : Pos) (cause : SkipCause) (h : .cutoff ∈ F) :
    (s.skipCut c cause).erase F = s.erase F := by
  simp [State.skipCut, h]

@[simp] theorem erase_passStart (s : State) (o : Order) (h : [.cutoff, .regs, .inbox] ⊆ F) :
    (s.passStart o).erase F = s.erase F := by
  simp only [List.cons_subset, List.nil_subset, and_true] at h
  simp [State.passStart, h]

@[simp] theorem erase_passCut (s : State) (c : Pos) (h : [.cutoff, .regs, .inbox] ⊆ F) :
    (s.passCut c).erase F = s.erase F := by
  simp only [List.cons_subset, List.nil_subset, and_true] at h
  simp only [State.passCut]
  (repeat' split) <;> simp [h]

/-- A block's event whose reports stand before all that waits touches what the event touches. -/
theorem erase_reportAhead (s : State) (p : Purpose) (f : State → State)
    (h : .inbox ∈ F) (hf : ∀ t, (f t).erase F = t.erase F) :
    (s.reportAhead p f).erase F = s.erase F := by
  unfold State.reportAhead
  rw [erase_with_inbox (f _) _ h, hf, erase_with_inbox s _ h]

@[simp] theorem erase_takeCut (s : State) (c : Pos) (h : [.cutoff, .regs, .inbox, .map, .choice] ⊆ F) :
    (s.takeCut c).erase F = s.erase F := by
  simp only [List.cons_subset, List.nil_subset, and_true] at h
  simp only [State.takeCut]
  split
  · exact erase_reportAhead _ _ _ h.2.2.1 (fun t => by simp [h])
  · rw [erase_prune _ _ (by simp [h])]
    exact erase_reportAhead _ _ _ h.2.2.1 (fun t => by simp [h])

@[simp] theorem erase_knifeModeEntry (s : State) (before : Mode) (after : Mode) (h : [.cutoff, .regs, .inbox] ⊆ F) :
    (s.knifeModeEntry before after).erase F = s.erase F := by
  simp only [List.cons_subset, List.nil_subset, and_true] at h
  simp only [State.knifeModeEntry]
  (repeat' split) <;> simp [h]

@[simp] theorem erase_spendChoice (s : State) (k : Nat) (h : .choice ∈ F) : (s.spendChoice k).erase F = s.erase F := by
  simp [State.spendChoice, h]

@[simp] theorem erase_updStation (s : State) (st : Station) (f : StationRec → StationRec) (h : .slitter ∈ F) :
    (s.updStation st f).erase F = s.erase F := by
  simp [State.updStation, h]

@[simp] theorem erase_idleStation (s : State) (st : Station) (h : [.slitter, .notices] ⊆ F) :
    (s.idleStation st).erase F = s.erase F := by
  simp only [List.cons_subset, List.nil_subset, and_true] at h
  simp [State.idleStation, h]

@[simp] theorem erase_load (s : State) (st : Station) (r : SetRec) (h : .slitter ∈ F) :
    (s.load st r).erase F = s.erase F := by
  simp only [State.load]
  (repeat' split) <;> simp [h]

@[simp] theorem erase_takeId (s : State) (st : Station) (id : Nat) (h : .slitter ∈ F) :
    (s.takeId st id).erase F = s.erase F := by
  simp [State.takeId, h]

@[simp] theorem erase_updateNext (s : State) (h : [.slitter, .regs, .inbox] ⊆ F) : s.updateNext.erase F = s.erase F := by
  simp only [List.cons_subset, List.nil_subset, and_true] at h
  simp only [State.updateNext]
  (repeat' split) <;> simp [h]

@[simp] theorem erase_restStandby (s : State) (st : Station) (h : .slitter ∈ F) :
    (s.restStandby st).erase F = s.erase F := by
  simp only [State.restStandby]
  (repeat' split) <;> simp [h]

@[simp] theorem erase_setStandby (s : State) (h : .slitter ∈ F) : s.setStandby.erase F = s.erase F := by
  simp only [State.setStandby]
  (repeat' split) <;> simp [h]

@[simp] theorem erase_refreshNext (s : State) (h : [.slitter, .regs, .inbox] ⊆ F) :
    s.refreshNext.erase F = s.erase F := by
  simp only [List.cons_subset, List.nil_subset, and_true] at h
  simp [State.refreshNext, h]

@[simp] theorem erase_engageFor (s : State) (st : Station) (h : [.slitter, .map, .inbox, .choice] ⊆ F) :
    (s.engageFor st).erase F = s.erase F := by
  simp only [List.cons_subset, List.nil_subset, and_true] at h
  simp [State.engageFor, h]

@[simp] theorem erase_chooseIncoming (s : State) (outgoing : Option Station) (r : SetRec) (h : .slitter ∈ F) :
    (s.chooseIncoming outgoing r).erase F = s.erase F := by
  simp only [State.chooseIncoming]
  (repeat' split) <;> simp [h]

@[simp] theorem erase_disengage (s : State) (h : .slitter ∈ F) : s.disengage.erase F = s.erase F := by
  simp only [State.disengage]
  (repeat' split) <;> simp [h]

@[simp] theorem erase_lateSwap (s : State) (start : Pos) (r : SetRec) (ready : Option Station)
    (h : [.slitter, .map, .inbox, .choice, .notices] ⊆ F) :
    (s.lateSwap start r ready).erase F = s.erase F := by
  simp only [List.cons_subset, List.nil_subset, and_true] at h
  simp only [State.lateSwap]
  (repeat' split) <;> simp [h]

@[simp] theorem erase_readySwap (s : State) (st : Station) (h : .slitter ∈ F) : (s.readySwap st).erase F = s.erase F := by
  simp [State.readySwap, h]

@[simp] theorem erase_triggerAwaited (s : State) (w : SetRec) (r : SetRec)
    (h : [.slitter, .map, .inbox, .choice, .notices] ⊆ F) :
    (s.triggerAwaited w r).erase F = s.erase F := by
  simp only [List.cons_subset, List.nil_subset, and_true] at h
  simp only [State.triggerAwaited]
  (repeat' split) <;> simp [h]

@[simp] theorem erase_triggerEstopped (s : State) (start : Pos) (r : SetRec) (h : .slitter ∈ F) :
    (s.triggerEstopped start r).erase F = s.erase F := by
  simp only [State.triggerEstopped]
  (repeat' split) <;> simp [h]

@[simp] theorem erase_trigger (s : State) (start : Pos) (r : SetRec) (h : [.slitter, .map, .inbox, .choice, .notices] ⊆ F) :
    (s.trigger start r).erase F = s.erase F := by
  simp only [List.cons_subset, List.nil_subset, and_true] at h
  simp only [State.trigger]
  (repeat' split) <;> simp [h]

@[simp] theorem erase_slitMarked (s : State) (t : State) (h : .notices ∈ F) : (s.slitMarked t).erase F = t.erase F := by
  simp [State.slitMarked, h]

@[simp] theorem erase_takeSlitWindow (s : State) (h : .slitter ∈ F) : s.takeSlitWindow.erase F = s.erase F := by
  simp only [State.takeSlitWindow]
  (repeat' split) <;> simp [h]

@[simp] theorem erase_takeSlitTrigger (s : State) (h : [.slitter, .regs, .map, .inbox, .choice, .notices] ⊆ F) :
    s.takeSlitTrigger.erase F = s.erase F := by
  simp only [List.cons_subset, List.nil_subset, and_true] at h
  simp only [State.takeSlitTrigger]
  (repeat' split) <;> simp [h]

@[simp] theorem erase_slitOrderChange (s : State) (h : [.slitter, .regs, .inbox, .notices] ⊆ F) :
    s.slitOrderChange.erase F = s.erase F := by
  simp only [List.cons_subset, List.nil_subset, and_true] at h
  simp [State.slitOrderChange, h]

@[simp] theorem erase_takeSetDone (s : State) (st : Station) (h : [.slitter, .map, .inbox, .choice, .notices] ⊆ F) :
    (s.takeSetDone st).erase F = s.erase F := by
  simp only [List.cons_subset, List.nil_subset, and_true] at h
  simp only [State.takeSetDone]
  (repeat' split) <;> simp [h]

@[simp] theorem erase_takeSetExpiry (s : State) (st : Station) (h : [.slitter, .notices] ⊆ F) :
    (s.takeSetExpiry st).erase F = s.erase F := by
  simp only [List.cons_subset, List.nil_subset, and_true] at h
  simp only [State.takeSetExpiry]
  (repeat' split) <;> simp [h]

@[simp] theorem erase_stopSetting (s : State) (st : Station) (h : .slitter ∈ F) :
    (s.stopSetting st).erase F = s.erase F := by
  simp only [State.stopSetting]
  (repeat' split) <;> simp [h]

@[simp] theorem erase_takeDeferred (s : State) (h : [.slitter, .map, .inbox, .choice, .notices] ⊆ F) :
    s.takeDeferred.erase F = s.erase F := by
  simp only [List.cons_subset, List.nil_subset, and_true] at h
  simp only [State.takeDeferred]
  (repeat' split) <;> simp [h]

@[simp] theorem erase_loadAwaited (s : State) (h : .slitter ∈ F) : s.loadAwaited.erase F = s.erase F := by
  simp only [State.loadAwaited]
  (repeat' split) <;> simp [h]

@[simp] theorem erase_slitModeEntry (s : State) (before : Mode) (after : Mode)
    (h : [.slitter, .regs, .map, .inbox, .choice, .notices] ⊆ F) :
    (s.slitModeEntry before after).erase F = s.erase F := by
  simp only [List.cons_subset, List.nil_subset, and_true] at h
  simp only [State.slitModeEntry]
  (repeat' split) <;> simp [h]

@[simp] theorem erase_followGate (s : State) (h : [.regs, .inbox] ⊆ F) : s.followGate.erase F = s.erase F := by
  simp only [List.cons_subset, List.nil_subset, and_true] at h
  simp only [State.followGate]
  (repeat' split) <;> simp [h]

@[simp] theorem erase_followStack (s : State) (h : [.regs, .inbox] ⊆ F) : s.followStack.erase F = s.erase F := by
  simp only [List.cons_subset, List.nil_subset, and_true] at h
  simp only [State.followStack]
  (repeat' split) <;> simp [h]

@[simp] theorem erase_takeSheet (s : State) (r : Sheet) (h : [.stacker, .regs, .inbox] ⊆ F) :
    (s.takeSheet r).erase F = s.erase F := by
  simp only [List.cons_subset, List.nil_subset, and_true] at h
  simp only [State.takeSheet]
  (repeat' split) <;> simp [h]

@[simp] theorem erase_endTest (s : State) (id : Nat) (h : [.stacker, .inbox] ⊆ F) : (s.endTest id).erase F = s.erase F := by
  simp only [List.cons_subset, List.nil_subset, and_true] at h
  simp only [State.endTest]
  (repeat' split) <;> simp [h]

@[simp] theorem erase_startTransfer (s : State) (h : .stacker ∈ F) : s.startTransfer.erase F = s.erase F := by
  simp only [State.startTransfer]
  (repeat' split) <;> simp [h]

@[simp] theorem erase_tryClose (s : State) (h : [.stacker, .inbox] ⊆ F) : s.tryClose.erase F = s.erase F := by
  simp only [List.cons_subset, List.nil_subset, and_true] at h
  simp only [State.tryClose]
  (repeat' split) <;> simp [h]

@[simp] theorem erase_stackMarked (s : State) (t : State) (h : .notices ∈ F) : (s.stackMarked t).erase F = t.erase F := by
  simp [State.stackMarked, h]

@[simp] theorem erase_takeFinal (s : State) (id : Nat) (h : [.stacker, .inbox] ⊆ F) :
    (s.takeFinal id).erase F = s.erase F := by
  simp only [List.cons_subset, List.nil_subset, and_true] at h
  simp [State.takeFinal, h]

@[simp] theorem erase_takeFinals (s : State) (l : List Cover) (h : [.stacker, .inbox] ⊆ F) :
    (s.takeFinals l).erase F = s.erase F := by
  simp only [List.cons_subset, List.nil_subset, and_true] at h
  simp [State.takeFinals, h]

@[simp] theorem erase_divertSheet (s : State) (h : .stacker ∈ F) : s.divertSheet.erase F = s.erase F := by
  simp [State.divertSheet, h]

@[simp] theorem erase_gateDecide (s : State) (r : Sheet) (h : [.stacker, .regs, .inbox] ⊆ F) :
    (s.gateDecide r).erase F = s.erase F := by
  simp only [List.cons_subset, List.nil_subset, and_true] at h
  simp only [State.gateDecide]
  (repeat' split) <;> simp [h]

@[simp] theorem erase_takeGate (s : State) (h : [.stacker, .regs, .inbox, .notices] ⊆ F) :
    s.takeGate.erase F = s.erase F := by
  simp only [List.cons_subset, List.nil_subset, and_true] at h
  simp only [State.takeGate]
  (repeat' split) <;> simp [h]

@[simp] theorem erase_takeLanding (s : State) (h : [.stacker, .regs, .inbox, .notices] ⊆ F) :
    s.takeLanding.erase F = s.erase F := by
  simp only [List.cons_subset, List.nil_subset, and_true] at h
  simp only [State.takeLanding]
  (repeat' split) <;> simp [h]

@[simp] theorem erase_takeTransferDone (s : State) (h : [.stacker, .inbox, .notices] ⊆ F) :
    s.takeTransferDone.erase F = s.erase F := by
  simp only [List.cons_subset, List.nil_subset, and_true] at h
  simp only [State.takeTransferDone]
  (repeat' split) <;> simp [h]

@[simp] theorem erase_takeStackTaken (s : State) (h : [.stacker, .notices] ⊆ F) :
    s.takeStackTaken.erase F = s.erase F := by
  simp only [List.cons_subset, List.nil_subset, and_true] at h
  simp only [State.takeStackTaken]
  (repeat' split) <;> simp [h]

@[simp] theorem erase_stackModeEntry (s : State) (before : Mode) (after : Mode) (h : [.stacker, .notices] ⊆ F) :
    (s.stackModeEntry before after).erase F = s.erase F := by
  simp only [List.cons_subset, List.nil_subset, and_true] at h
  simp only [State.stackModeEntry]
  (repeat' split) <;> simp [h]

@[simp] theorem erase_updStand (s : State) (n : Stand) (f : StandRec → StandRec) (h : .stands ∈ F) :
    (s.updStand n f).erase F = s.erase F := by
  simp [State.updStand, h]

@[simp] theorem erase_standsMarked (s : State) (t : State) (h : .notices ∈ F) : (s.standsMarked t).erase F = t.erase F := by
  simp [State.standsMarked, h]

@[simp] theorem erase_raiseExpiry (s : State) (n : Stand) (h : [.stands, .inbox] ⊆ F) :
    (s.raiseExpiry n).erase F = s.erase F := by
  simp only [List.cons_subset, List.nil_subset, and_true] at h
  simp only [State.raiseExpiry]
  (repeat' split) <;> simp [h]

@[simp] theorem erase_testExpiry (s : State) (n : Stand) (h : [.stands, .inbox] ⊆ F) :
    (s.testExpiry n).erase F = s.erase F := by
  simp only [List.cons_subset, List.nil_subset, and_true] at h
  simp only [State.testExpiry]
  (repeat' split) <;> simp [h]

@[simp] theorem erase_freshExpiry (s : State) (n : Stand) (h : [.stands, .inbox] ⊆ F) :
    (s.freshExpiry n).erase F = s.erase F := by
  simp only [List.cons_subset, List.nil_subset, and_true] at h
  simp [State.freshExpiry, h]

@[simp] theorem erase_drawStand (n : Stand) (s : State) (h : .stands ∈ F) : (State.drawStand n s).erase F = s.erase F := by
  simp only [State.drawStand]
  (repeat' split) <;> simp [h]

@[simp] theorem erase_rollChange (s : State) (n : Stand) (m : Arm) (h : [.stands, .inbox, .notices] ⊆ F) :
    (s.rollChange n m).erase F = s.erase F := by
  simp only [List.cons_subset, List.nil_subset, and_true] at h
  simp [State.rollChange, h]

@[simp] theorem erase_tapeSpent (s : State) (n : Stand) (m : Arm) (h : [.stands, .notices] ⊆ F) :
    (s.tapeSpent n m).erase F = s.erase F := by
  simp only [List.cons_subset, List.nil_subset, and_true] at h
  simp [State.tapeSpent, h]

@[simp] theorem erase_standFault (s : State) (n : Stand) (c : FaultCause) (h : [.stands, .notices] ⊆ F) :
    (s.standFault n c).erase F = s.erase F := by
  simp only [List.cons_subset, List.nil_subset, and_true] at h
  simp [State.standFault, h]

@[simp] theorem erase_standsModeEntry (s : State) (h : [.stands, .inbox] ⊆ F) :
    s.standsModeEntry.erase F = s.erase F := by
  simp only [List.cons_subset, List.nil_subset, and_true] at h
  simp only [State.standsModeEntry]
  (repeat' split) <;> simp [h]

@[simp] theorem erase_standsAccepted (s : State) (h : [.stands, .inbox] ⊆ F) : s.standsAccepted.erase F = s.erase F := by
  simp only [List.cons_subset, List.nil_subset, and_true] at h
  simp [State.standsAccepted, h]

@[simp] theorem erase_makeReady (s : State) (n : Stand) (m : Arm) (h : [.stands, .inbox, .notices] ⊆ F) :
    (s.makeReady n m).erase F = s.erase F := by
  simp only [List.cons_subset, List.nil_subset, and_true] at h
  simp only [State.makeReady]
  (repeat' split) <;> simp [h]

@[simp] theorem erase_takePrepared (s : State) (n : Stand) (h : [.stands, .inbox, .notices] ⊆ F) :
    (s.takePrepared n).erase F = s.erase F := by
  simp only [List.cons_subset, List.nil_subset, and_true] at h
  simp only [State.takePrepared]
  (repeat' split) <;> simp [h]

@[simp] theorem erase_clearStand (s : State) (n : Stand) (m : Option Arm)
    (h : [.stands, .map, .inbox, .choice, .notices] ⊆ F) :
    (s.clearStand n m).erase F = s.erase F := by
  simp only [List.cons_subset, List.nil_subset, and_true] at h
  simp only [State.clearStand]
  (repeat' split) <;> simp [h]

@[simp] theorem erase_updSpl (s : State) (n : Stand) (f : SpliceRec → SpliceRec) (h : .splice ∈ F) :
    (s.updSpl n f).erase F = s.erase F := by
  simp [State.updSpl, h]

@[simp] theorem erase_updSeq (s : State) (n : Stand) (f : Seq → Seq) (h : .splice ∈ F) :
    (s.updSeq n f).erase F = s.erase F := by
  simp [State.updSeq, h]

@[simp] theorem erase_openMismatchTell (s : State) (n : Stand) (p : Pos)
    (h : [.splice, .map, .inbox, .choice, .notices] ⊆ F) :
    (s.openMismatchTell n p).1.erase F = s.erase F := by
  simp only [List.cons_subset, List.nil_subset, and_true] at h
  simp only [State.openMismatchTell]
  (repeat' split) <;> simp [h]

@[simp] theorem erase_openMismatch (s : State) (n : Stand) (p : Pos) (h : [.splice, .map, .inbox, .choice, .notices] ⊆ F) :
    (s.openMismatch n p).erase F = s.erase F := by
  simp only [List.cons_subset, List.nil_subset, and_true] at h
  simp [State.openMismatch, h]

@[simp] theorem erase_closeMismatch (s : State) (n : Stand) (p : Pos) (h : [.splice, .map, .inbox, .choice] ⊆ F) :
    (s.closeMismatch n p).erase F = s.erase F := by
  simp only [List.cons_subset, List.nil_subset, and_true] at h
  simp only [State.closeMismatch]
  (repeat' split) <;> simp [h]

@[simp] theorem erase_endSeq (s : State) (n : Stand) (q : Seq) (o : SpliceOutcome) (laid : Option (Pos × Pos)) (withWait : Bool)
    (h : [.splice, .regs, .inbox, .notices] ⊆ F) :
    (s.endSeq n q o laid withWait).erase F = s.erase F := by
  simp only [List.cons_subset, List.nil_subset, and_true] at h
  simp [State.endSeq, h]

@[simp] theorem erase_keepOwed (s : State) (n : Stand) (q : Seq) (h : [.splice, .map, .inbox, .choice, .notices] ⊆ F) :
    (s.keepOwed n q).1.erase F = s.erase F := by
  simp only [List.cons_subset, List.nil_subset, and_true] at h
  simp only [State.keepOwed]
  (repeat' split) <;> simp [h]

@[simp] theorem erase_endOwed (s : State) (n : Stand) (q : Seq) (o : SpliceOutcome) (withWait : Bool)
    (h : [.splice, .regs, .map, .inbox, .choice, .notices] ⊆ F) :
    (s.endOwed n q o withWait).erase F = s.erase F := by
  simp only [List.cons_subset, List.nil_subset, and_true] at h
  simp [State.endOwed, h]

@[simp] theorem erase_keepPlan (s : State) (n : Stand) (q : Seq) (h : .splice ∈ F) :
    (s.keepPlan n q).erase F = s.erase F := by
  simp only [State.keepPlan]
  (repeat' split) <;> simp [h]

@[simp] theorem erase_endNoRoll (s : State) (n : Stand) (q : Seq)
    (h : [.splice, .regs, .map, .inbox, .choice, .notices] ⊆ F) :
    (s.endNoRoll n q).erase F = s.erase F := by
  simp only [List.cons_subset, List.nil_subset, and_true] at h
  simp [State.endNoRoll, h]

@[simp] theorem erase_startPaste (s : State) (n : Stand) (q : Seq) (h : .splice ∈ F) :
    (s.startPaste n q).erase F = s.erase F := by
  simp [State.startPaste, h]

@[simp] theorem erase_pasteTest (s : State) (n : Stand) (h : .splice ∈ F) : (s.pasteTest n).erase F = s.erase F := by
  simp only [State.pasteTest]
  (repeat' split) <;> simp [h]

@[simp] theorem erase_triggerSeq (s : State) (n : Stand) (h : [.splice, .regs, .map, .inbox, .choice, .notices] ⊆ F) :
    (s.triggerSeq n).erase F = s.erase F := by
  simp only [List.cons_subset, List.nil_subset, and_true] at h
  simp only [State.triggerSeq]
  (repeat' split) <;> simp [h]

@[simp] theorem erase_takeApproach (s : State) (n : Stand) (h : .splice ∈ F) : (s.takeApproach n).erase F = s.erase F := by
  simp [State.takeApproach, h]

@[simp] theorem erase_takeSpliceTrigger (s : State) (n : Stand) (h : [.splice, .regs, .map, .inbox, .choice, .notices] ⊆ F) :
    (s.takeSpliceTrigger n).erase F = s.erase F := by
  simp only [List.cons_subset, List.nil_subset, and_true] at h
  simp only [State.takeSpliceTrigger]
  (repeat' split) <;> simp [h]

@[simp] theorem erase_takeMinRun (s : State) (n : Stand) (h : [.splice, .regs, .map, .inbox, .choice, .notices] ⊆ F) :
    (s.takeMinRun n).erase F = s.erase F := by
  simp only [List.cons_subset, List.nil_subset, and_true] at h
  simp only [State.takeMinRun]
  (repeat' split) <;> simp [h]

@[simp] theorem erase_takePasted (s : State) (n : Stand) (h : .splice ∈ F) : (s.takePasted n).erase F = s.erase F := by
  simp only [State.takePasted]
  (repeat' split) <;> simp [h]

@[simp] theorem erase_takeCutInput (s : State) (n : Stand) (h : .splice ∈ F) : (s.takeCutInput n).erase F = s.erase F := by
  simp only [State.takeCutInput]
  (repeat' split) <;> simp [h]

@[simp] theorem erase_layJoint (s : State) (n : Stand) (q : Seq) (joint : Pos)
    (h : [.splice, .map, .inbox, .choice, .notices] ⊆ F) :
    (s.layJoint n q joint).1.erase F = s.erase F := by
  simp only [List.cons_subset, List.nil_subset, and_true] at h
  simp only [State.layJoint]
  (repeat' split) <;> simp [h]

@[simp] theorem erase_takeTransferExpiry (s : State) (n : Stand)
    (h : [.stands, .splice, .regs, .map, .inbox, .choice, .notices] ⊆ F) :
    (s.takeTransferExpiry n).erase F = s.erase F := by
  simp only [List.cons_subset, List.nil_subset, and_true] at h
  simp only [State.takeTransferExpiry]
  (repeat' split) <;> simp [h]

@[simp] theorem erase_takePasteFail (s : State) (n : Stand)
    (h : [.stands, .splice, .regs, .map, .inbox, .choice, .notices] ⊆ F) :
    (s.takePasteFail n).erase F = s.erase F := by
  simp only [List.cons_subset, List.nil_subset, and_true] at h
  simp only [State.takePasteFail]
  (repeat' split) <;> simp [h]

@[simp] theorem erase_takeWebLoss (s : State) (n : Stand)
    (h : [.stands, .splice, .regs, .map, .inbox, .choice, .notices] ⊆ F) :
    (s.takeWebLoss n).erase F = s.erase F := by
  simp only [List.cons_subset, List.nil_subset, and_true] at h
  simp only [State.takeWebLoss]
  (repeat' split) <;> simp [h]

@[simp] theorem erase_settleMismatch (s : State) (n : Stand) (b : Pos) (h : [.splice, .map, .inbox, .choice] ⊆ F) :
    (s.settleMismatch n b).erase F = s.erase F := by
  simp only [List.cons_subset, List.nil_subset, and_true] at h
  simp [State.settleMismatch, h]

@[simp] theorem erase_armPlan (s : State) (n : Stand) (p : Plan) (h : [.splice, .regs, .map, .inbox, .choice, .notices] ⊆ F) :
    (s.armPlan n p).erase F = s.erase F := by
  simp only [List.cons_subset, List.nil_subset, and_true] at h
  simp only [State.armPlan]
  (repeat' split) <;> simp [h]

@[simp] theorem erase_giveUpWait (s : State) (n : Stand) (p : Plan) (h : .splice ∈ F) :
    (s.giveUpWait n p).1.erase F = s.erase F := by
  simp only [State.giveUpWait]
  (repeat' split) <;> simp [h]

@[simp] theorem erase_armNow (s : State) (n : Stand) (kind : SpliceKind) (plan : Option Plan) (needs : Nat × Option Nat)
    (h : [.splice, .regs, .map, .inbox, .choice, .notices] ⊆ F) :
    (s.armNow n kind plan needs).erase F = s.erase F := by
  simp only [List.cons_subset, List.nil_subset, and_true] at h
  simp [State.armNow, h]

@[simp] theorem erase_takeHandover (s : State) (n : Stand) (b : Pos) (kind : Nat) (id : Nat)
    (h : [.splice, .regs, .map, .inbox, .choice, .notices] ⊆ F) :
    (s.takeHandover n b kind id).erase F = s.erase F := by
  simp only [List.cons_subset, List.nil_subset, and_true] at h
  simp only [State.takeHandover]
  (repeat' split) <;> simp [h]

@[simp] theorem erase_testWait (s : State) (n : Stand) (h : [.splice, .regs, .map, .inbox, .choice, .notices] ⊆ F) :
    (s.testWait n).erase F = s.erase F := by
  simp only [List.cons_subset, List.nil_subset, and_true] at h
  simp only [State.testWait]
  (repeat' split) <;> simp [h]

@[simp] theorem erase_settleWait (s : State) (n : Stand) (h : [.splice, .map, .inbox, .choice] ⊆ F) :
    (s.settleWait n).erase F = s.erase F := by
  simp only [List.cons_subset, List.nil_subset, and_true] at h
  simp only [State.settleWait]
  (repeat' split) <;> simp [h]

@[simp] theorem erase_takeRollReady (s : State) (n : Stand) (h : [.splice, .regs, .map, .inbox, .choice, .notices] ⊆ F) :
    (s.takeRollReady n).erase F = s.erase F := by
  simp only [List.cons_subset, List.nil_subset, and_true] at h
  simp only [State.takeRollReady]
  (repeat' split) <;> simp [h]

@[simp] theorem erase_takeOwedWork (s : State) (n : Stand) (withWait : Bool)
    (h : [.splice, .regs, .map, .inbox, .choice, .notices] ⊆ F) :
    (s.takeOwedWork n withWait).erase F = s.erase F := by
  simp only [List.cons_subset, List.nil_subset, and_true] at h
  simp only [State.takeOwedWork]
  (repeat' split) <;> simp [h]

@[simp] theorem erase_takeExpiry (s : State) (n : Stand) (h : [.splice, .regs, .map, .inbox, .choice, .notices] ⊆ F) :
    (s.takeExpiry n).erase F = s.erase F := by
  simp only [List.cons_subset, List.nil_subset, and_true] at h
  simp only [State.takeExpiry]
  (repeat' split) <;> simp [h]

@[simp] theorem erase_takeCleared (s : State) (n : Stand) (h : [.splice, .map, .inbox, .choice, .notices] ⊆ F) :
    (s.takeCleared n).erase F = s.erase F := by
  simp only [List.cons_subset, List.nil_subset, and_true] at h
  simp only [State.takeCleared]
  (repeat' split) <;> simp [h]

@[simp] theorem erase_returnArmed (s : State) (n : Stand) (q : Seq) (h : .splice ∈ F) :
    (s.returnArmed n q).erase F = s.erase F := by
  simp only [State.returnArmed]
  (repeat' split) <;> simp [h]

@[simp] theorem erase_stopSplice (s : State) (n : Stand)
    (h : [.stands, .splice, .regs, .map, .inbox, .choice, .notices] ⊆ F) :
    (s.stopSplice n).erase F = s.erase F := by
  simp only [List.cons_subset, List.nil_subset, and_true] at h
  simp only [State.stopSplice]
  (repeat' split) <;> simp [h]

@[simp] theorem erase_spliceModeEntry (s : State) (before : Mode) (after : Mode)
    (h : [.stands, .splice, .regs, .map, .inbox, .choice, .notices] ⊆ F) :
    (s.spliceModeEntry before after).erase F = s.erase F := by
  simp only [List.cons_subset, List.nil_subset, and_true] at h
  simp only [State.spliceModeEntry]
  (repeat' split) <;> simp [h]

@[simp] theorem erase_pasteTests (s : State) (h : .splice ∈ F) : s.pasteTests.erase F = s.erase F := by
  simp [State.pasteTests, h]

@[simp] theorem erase_setSlow (s : State) (b : Bool) (h : [.heat, .notices] ⊆ F) : (s.setSlow b).erase F = s.erase F := by
  simp only [List.cons_subset, List.nil_subset, and_true] at h
  simp only [State.setSlow]
  (repeat' split) <;> simp [h]

@[simp] theorem erase_zoneSpan (s : State) (z : Zone) (was : Bool) (now : Bool) (h : [.map, .inbox, .choice, .notices] ⊆ F) :
    (s.zoneSpan z was now).erase F = s.erase F := by
  simp only [List.cons_subset, List.nil_subset, and_true] at h
  simp only [State.zoneSpan]
  (repeat' split) <;> simp [h]

@[simp] theorem erase_setZone (s : State) (z : Zone) (r : ZoneRec) (h : .heat ∈ F) : (s.setZone z r).erase F = s.erase F :=
  erase_with_heat s _ h

@[simp] theorem erase_findZone (z : Zone) (s : State) (h : [.heat, .map, .inbox, .choice, .notices] ⊆ F) :
    (State.findZone z s).erase F = s.erase F := by
  simp only [List.cons_subset, List.nil_subset, and_true] at h
  simp only [State.findZone]
  (repeat' split) <;> simp [h]

@[simp] theorem erase_takeBelowExpiry (s : State) (z : Zone) (h : [.heat, .notices] ⊆ F) :
    (s.takeBelowExpiry z).erase F = s.erase F := by
  simp only [List.cons_subset, List.nil_subset, and_true] at h
  simp only [State.takeBelowExpiry]
  (repeat' split) <;> simp [h]

@[simp] theorem erase_takeHoldExpiry (s : State) (z : Zone) (h : .heat ∈ F) : (s.takeHoldExpiry z).erase F = s.erase F := by
  simp only [State.takeHoldExpiry]
  (repeat' split) <;> simp [h]

@[simp] theorem erase_zonePeriod (z : Zone) (s : State) (h : .heat ∈ F) : (State.zonePeriod z s).erase F = s.erase F := by
  simp only [State.zonePeriod]
  (repeat' split) <;> simp only [erase_setZone, h]

@[simp] theorem erase_takeZonePeriod (s : State) (h : .heat ∈ F) : s.takeZonePeriod.erase F = s.erase F := by
  simp [State.takeZonePeriod, h]

@[simp] theorem erase_followZone (s : State) (z : Zone) (h : [.regs, .inbox] ⊆ F) :
    (s.followZone z).erase F = s.erase F := by
  simp only [List.cons_subset, List.nil_subset, and_true] at h
  simp only [State.followZone]
  (repeat' split) <;> simp [h]

@[simp] theorem erase_takeZoneRecipe (b : Pos) (g : Grade) (z : Zone) (s : State) (h : [.heat, .regs, .inbox] ⊆ F) :
    (State.takeZoneRecipe b g z s).erase F = s.erase F := by
  simp only [List.cons_subset, List.nil_subset, and_true] at h
  simp only [State.takeZoneRecipe]
  (repeat' split) <;> simp [h]

@[simp] theorem erase_takeZoneCommit (s : State) (z : Zone) (h : [.heat, .regs, .map, .inbox, .choice, .notices] ⊆ F) :
    (s.takeZoneCommit z).erase F = s.erase F := by
  simp only [List.cons_subset, List.nil_subset, and_true] at h
  simp only [State.takeZoneCommit]
  (repeat' split) <;> simp [h]

@[simp] theorem erase_findUnitAt (e : Pos) (u : GlueUnit) (s : State) (h : [.glue, .map, .inbox, .choice, .notices] ⊆ F) :
    (State.findUnitAt e u s).erase F = s.erase F := by
  simp only [List.cons_subset, List.nil_subset, and_true] at h
  simp only [State.findUnitAt]
  (repeat' split) <;> simp [h]

@[simp] theorem erase_findUnit (u : GlueUnit) (s : State) (h : [.glue, .map, .inbox, .choice, .notices] ⊆ F) :
    (State.findUnit u s).erase F = s.erase F := by
  simp only [List.cons_subset, List.nil_subset, and_true] at h
  simp [State.findUnit, h]

@[simp] theorem erase_updUnit (s : State) (u : GlueUnit) (f : GlueRec → GlueRec)
    (h : [.glue, .map, .inbox, .choice, .notices] ⊆ F) :
    (s.updUnit u f).erase F = s.erase F := by
  simp only [List.cons_subset, List.nil_subset, and_true] at h
  simp only [State.updUnit]
  (repeat' split) <;> simp [h]

@[simp] theorem erase_setMotion (s : State) (b : Bool) (e : Pos) (h : [.glue, .map, .inbox, .choice, .notices] ⊆ F) :
    (s.setMotion b e).erase F = s.erase F := by
  simp only [List.cons_subset, List.nil_subset, and_true] at h
  simp only [State.setMotion]
  (repeat' split) <;> simp [h]

@[simp] theorem erase_takeMotion (s : State) (h : [.glue, .map, .inbox, .choice, .notices] ⊆ F) :
    s.takeMotion.erase F = s.erase F := by
  simp only [List.cons_subset, List.nil_subset, and_true] at h
  simp [State.takeMotion, h]

@[simp] theorem erase_computeTarget (u : GlueUnit) (s : State) (h : [.glue, .map, .inbox, .choice, .notices] ⊆ F) :
    (State.computeTarget u s).erase F = s.erase F := by
  simp only [List.cons_subset, List.nil_subset, and_true] at h
  simp only [State.computeTarget]
  (repeat' split) <;> simp [h]

@[simp] theorem erase_liftTest (u : GlueUnit) (s : State) (h : [.glue, .map, .inbox, .choice, .notices] ⊆ F) :
    (State.liftTest u s).erase F = s.erase F := by
  simp only [List.cons_subset, List.nil_subset, and_true] at h
  simp only [State.liftTest]
  (repeat' split) <;> simp [h]

@[simp] theorem erase_reapplyTest (u : GlueUnit) (s : State) (h : [.glue, .map, .inbox, .choice, .notices] ⊆ F) :
    (State.reapplyTest u s).erase F = s.erase F := by
  simp only [List.cons_subset, List.nil_subset, and_true] at h
  simp only [State.reapplyTest]
  (repeat' split) <;> simp [h]

@[simp] theorem erase_glueTests (s : State) (h : [.glue, .map, .inbox, .choice, .notices] ⊆ F) :
    s.glueTests.erase F = s.erase F := by
  simp only [List.cons_subset, List.nil_subset, and_true] at h
  simp [State.glueTests, h]

@[simp] theorem erase_gluePublish (s : State) (h : [.glue, .map, .inbox, .choice, .notices] ⊆ F) :
    s.gluePublish.erase F = s.erase F := by
  simp only [List.cons_subset, List.nil_subset, and_true] at h
  simp only [State.gluePublish]
  (repeat' split) <;> simp [h]

@[simp] theorem erase_takeArrived (s : State) (u : GlueUnit) (h : [.glue, .map, .inbox, .choice, .notices] ⊆ F) :
    (s.takeArrived u).erase F = s.erase F := by
  simp only [List.cons_subset, List.nil_subset, and_true] at h
  simp only [State.takeArrived]
  (repeat' split) <;> simp [h]

@[simp] theorem erase_takeMoveExpiry (s : State) (u : GlueUnit) (h : [.glue, .map, .inbox, .choice, .notices] ⊆ F) :
    (s.takeMoveExpiry u).erase F = s.erase F := by
  simp only [List.cons_subset, List.nil_subset, and_true] at h
  simp only [State.takeMoveExpiry]
  (repeat' split) <;> simp [h]

@[simp] theorem erase_followUnit (s : State) (u : GlueUnit) (h : [.regs, .inbox] ⊆ F) :
    (s.followUnit u).erase F = s.erase F := by
  simp only [List.cons_subset, List.nil_subset, and_true] at h
  simp only [State.followUnit]
  (repeat' split) <;> simp [h]

@[simp] theorem erase_takeGlueRecipe (b : Pos) (g : Grade) (u : GlueUnit) (s : State) (h : [.glue, .regs, .inbox] ⊆ F) :
    (State.takeGlueRecipe b g u s).erase F = s.erase F := by
  simp only [List.cons_subset, List.nil_subset, and_true] at h
  simp only [State.takeGlueRecipe]
  (repeat' split) <;> simp [h]

@[simp] theorem erase_takeGlueCommit (s : State) (u : GlueUnit) (h : [.glue, .regs, .map, .inbox, .choice, .notices] ⊆ F) :
    (s.takeGlueCommit u).erase F = s.erase F := by
  simp only [List.cons_subset, List.nil_subset, and_true] at h
  simp only [State.takeGlueCommit]
  (repeat' split) <;> simp [h]

@[simp] theorem erase_takeRecipes (s : State) (b : Pos) (g : Grade) (h : [.heat, .glue, .regs, .inbox] ⊆ F) :
    (s.takeRecipes b g).erase F = s.erase F := by
  simp only [List.cons_subset, List.nil_subset, and_true] at h
  simp [State.takeRecipes, h]

@[simp] theorem erase_glueModeEntry (s : State) (after : Mode) (h : [.glue, .map, .inbox, .choice, .notices] ⊆ F) :
    (s.glueModeEntry after).erase F = s.erase F := by
  simp only [List.cons_subset, List.nil_subset, and_true] at h
  simp only [State.glueModeEntry]
  (repeat' split) <;> simp [h]

@[simp] theorem erase_takeRunOut (s : State) (h : [.gov, .notices] ⊆ F) : s.takeRunOut.erase F = s.erase F := by
  simp only [List.cons_subset, List.nil_subset, and_true] at h
  simp [State.takeRunOut, h]

@[simp] theorem erase_takeAccepted (s : State) (h : .gov ∈ F) : s.takeAccepted.erase F = s.erase F := by
  simp [State.takeAccepted, h]

@[simp] theorem erase_refreshLimits (s : State) (h : [.limits, .notices] ⊆ F) : s.refreshLimits.erase F = s.erase F := by
  simp only [List.cons_subset, List.nil_subset, and_true] at h
  simp [State.refreshLimits, h]

@[simp] theorem erase_takeModeEntry (s : State) (before after : Mode)
    (h : [.cutoff, .slitter, .stacker, .stands, .splice, .glue, .regs, .map, .inbox, .choice, .notices] ⊆ F) :
    (s.takeModeEntry before after).erase F = s.erase F := by
  simp only [List.cons_subset, List.nil_subset, and_true] at h
  simp [State.takeModeEntry, h]

@[simp] theorem erase_makeNotice (s : State) (i : NoticeSource) (h : [.link, .notices] ⊆ F) :
    (s.makeNotice i).erase F = s.erase F := by
  simp only [List.cons_subset, List.nil_subset, and_true] at h
  simp [State.makeNotice, State.erase, h]

@[simp] theorem erase_offerNotice (s : State) (h : [.link, .notices] ⊆ F) : s.offerNotice.erase F = s.erase F := by
  simp only [List.cons_subset, List.nil_subset, and_true] at h
  simp only [State.offerNotice]
  (repeat' split) <;> simp [h]
/-! ### Web losses, draws and the cut timer -/

@[simp] theorem erase_webLoss (s : State) (n : Stand) (c : FaultCause) (h : [.stands, .map, .inbox, .choice, .notices] ⊆ F) :
    (s.webLoss n c).erase F = s.erase F := by
  simp only [List.cons_subset, List.nil_subset, and_true] at h
  simp only [State.webLoss]
  split <;> simp [h]

@[simp] theorem erase_takeWebLost (s : State) (n : Stand) (h : [.stands, .map, .inbox, .choice, .notices] ⊆ F) :
    (s.takeWebLost n).erase F = s.erase F := by
  simp only [List.cons_subset, List.nil_subset, and_true] at h
  simp [State.takeWebLost, h]

@[simp] theorem erase_takeDecrement (s : State) (n : Stand) (h : [.stands, .map, .inbox, .choice, .notices] ⊆ F) :
    (s.takeDecrement n).erase F = s.erase F := by
  simp only [List.cons_subset, List.nil_subset, and_true] at h
  simp only [State.takeDecrement]
  (repeat' split) <;> simp [h]

@[simp] theorem erase_takeCutFail (s : State) (n : Stand)
    (h : [.stands, .splice, .regs, .map, .inbox, .choice, .notices] ⊆ F) : (s.takeCutFail n).erase F = s.erase F := by
  simp only [List.cons_subset, List.nil_subset, and_true] at h
  simp only [State.takeCutFail]
  (repeat' split) <;> simp [h]

/-! ### The scanner and the supply header -/

@[simp] theorem erase_formRecord (s : State) (raw : Raw) (h : .scanner ∈ F) : (s.formRecord raw).erase F = s.erase F :=
  erase_with_scanner s _ h

@[simp] theorem erase_startScanner (s : State) (h : .scanner ∈ F) : s.startScanner.erase F = s.erase F := by
  simp only [State.startScanner]
  split <;> simp [h]

@[simp] theorem erase_setHeader (s : State) (x : Header) (t : Option Nat) (h : [.heat, .map, .inbox, .choice, .notices] ⊆ F) :
    (s.setHeader x t).erase F = s.erase F := by
  simp only [List.cons_subset, List.nil_subset, and_true] at h
  simp only [State.setHeader]
  split <;> simp [h]

@[simp] theorem erase_startSettle (s : State) (h : [.heat, .map, .inbox, .choice, .notices] ⊆ F) :
    s.startSettle.erase F = s.erase F := erase_setHeader s _ _ h

@[simp] theorem erase_takePressure (s : State) (ok : Bool) (h : [.heat, .map, .inbox, .choice, .notices] ⊆ F) :
    (s.takePressure ok).erase F = s.erase F := by
  simp only [List.cons_subset, List.nil_subset, and_true] at h
  simp only [State.takePressure]
  (repeat' split) <;> simp [h]

@[simp] theorem erase_takeSettleExpiry (s : State) (h : [.heat, .map, .inbox, .choice, .notices] ⊆ F) :
    s.takeSettleExpiry.erase F = s.erase F := by
  simp only [List.cons_subset, List.nil_subset, and_true] at h
  simp only [State.takeSettleExpiry]
  split <;> simp [h]

@[simp] theorem erase_takeConversion (s : State) (raw : Raw)
    (h : [.scanner, .heat, .glue, .map, .inbox, .choice, .notices] ⊆ F) : (s.takeConversion raw).erase F = s.erase F := by
  simp only [List.cons_subset, List.nil_subset, and_true] at h
  simp only [State.takeConversion]
  (repeat' split) <;> simp [h]

/-! ### The Governor -/

@[simp] theorem erase_enterMode (s : State) (m : Mode) (h : [.gov, .inbox, .notices] ⊆ F) :
    (s.enterMode m).erase F = s.erase F := by
  simp only [List.cons_subset, List.nil_subset, and_true] at h
  simp [State.enterMode, h]

@[simp] theorem erase_takeHalt (s : State) (n : Stand) (c : HaltCause) (h : [.gov, .inbox, .notices] ⊆ F) :
    (s.takeHalt n c).erase F = s.erase F := by
  simp only [List.cons_subset, List.nil_subset, and_true] at h
  simp only [State.takeHalt]
  (repeat' split) <;> simp [h]

@[simp] theorem erase_enterEstopped (s : State) (h : [.gov, .map, .inbox, .choice, .notices] ⊆ F) :
    s.enterEstopped.erase F = s.erase F := by
  simp only [List.cons_subset, List.nil_subset, and_true] at h
  simp [State.enterEstopped, h]

@[simp] theorem erase_takeAssert (s : State) (h : [.gov, .map, .inbox, .choice, .notices] ⊆ F) :
    s.takeAssert.erase F = s.erase F := by
  simp only [List.cons_subset, List.nil_subset, and_true] at h
  simp only [State.takeAssert]
  split <;> simp [h]

@[simp] theorem erase_takeRelease (s : State) (h : .gov ∈ F) : s.takeRelease.erase F = s.erase F := erase_with_gov s _ h

@[simp] theorem erase_endStop (s : State) (h : [.gov, .inbox, .notices] ⊆ F) : s.endStop.erase F = s.erase F := by
  simp only [List.cons_subset, List.nil_subset, and_true] at h
  simp only [State.endStop]
  (repeat' split) <;> simp [h]

@[simp] theorem erase_takeGovStep (s : State) (h : [.gov, .inbox, .notices] ⊆ F) : s.takeGovStep.erase F = s.erase F := by
  simp only [List.cons_subset, List.nil_subset, and_true] at h
  simp [State.takeGovStep, h]

@[simp] theorem erase_takePublish (s : State) (h : [.tracker, .splice, .glue, .map, .inbox, .choice, .notices] ⊆ F) :
    s.takePublish.erase F = s.erase F := by
  simp only [List.cons_subset, List.nil_subset, and_true] at h
  simp [State.takePublish, h]

@[simp] theorem erase_leaveUnconfigured (s : State) (h : [.gov, .map, .inbox, .choice, .notices] ⊆ F) :
    s.leaveUnconfigured.erase F = s.erase F := by
  simp only [List.cons_subset, List.nil_subset, and_true] at h
  simp only [State.leaveUnconfigured]
  (repeat' split) <;> simp [h]

/-- An accepted section is applied by the tracker of sections, the stands, the knife or the scanner. -/
@[simp] theorem erase_applySection (s : State) (sec : Section) (h : [.cfg, .stands, .cutoff, .scanner, .inbox] ⊆ F) :
    (s.applySection sec).erase F = s.erase F := by
  simp only [List.cons_subset, List.nil_subset, and_true] at h
  cases sec <;> simp [State.applySection, h]

/-! ### The encoder -/

@[simp] theorem erase_postTogether (s : State) (es : List Ev) (h : [.inbox, .choice] ⊆ F) :
    (s.postTogether es).erase F = s.erase F := by
  simp only [List.cons_subset, List.nil_subset, and_true] at h
  unfold State.postTogether
  split
  · rfl
  · simp [h]
  · rw [erase_with_choice (s.postAll _) _ h.2, erase_postAll _ _ h.1]

@[simp] theorem erase_takeForward (s : State) (h : [.tracker, .map, .stands, .regs, .inbox, .choice] ⊆ F) :
    s.takeForward.erase F = s.erase F := by
  simp only [List.cons_subset, List.nil_subset, and_true] at h
  have moved (t : Tracker) (m : RejectMap) : ({ s with tracker := t, map := m } : State).erase F = s.erase F := by
    simp [State.erase, h]
  simp only [State.takeForward]
  split
  · simp [h]
  · rw [erase_postTogether _ _ (by simp [h]), erase_with_regs _ _ (by simp [h]), erase_each _ _ _ (by simp [h]), moved]

/-! ### The Line Link -/

@[simp] theorem erase_setRx (s : State) (st : RxState) (bs : List Byte)
    (h : .link ∈ F) : (s.setRx st bs).erase F = s.erase F :=
  erase_with_link s _ h

@[simp] theorem erase_discard (s : State) (c : LinkCause) (bs : List Byte) (h : .notices ∈ F) :
    (s.discard c bs).erase F = s.erase F := erase_raise s _ _ h

@[simp] theorem erase_takeNext (s : State) (h : [.link, .inbox] ⊆ F) : s.takeNext.erase F = s.erase F := by
  simp only [List.cons_subset, List.nil_subset, and_true] at h
  simp only [State.takeNext]
  split <;> simp [h]

@[simp] theorem erase_offerFrame (s : State) (f : Frame) (h : [.link, .inbox, .notices] ⊆ F) :
    (s.offerFrame f).erase F = s.erase F := by
  simp only [List.cons_subset, List.nil_subset, and_true] at h
  simp only [State.offerFrame]
  split <;> simp [h]

@[simp] theorem erase_receive (fuel : Nat) (l : List Byte) (s : State) (h : [.link, .inbox, .notices] ⊆ F) :
    (State.receive fuel l s).erase F = s.erase F := by
  simp only [List.cons_subset, List.nil_subset, and_true] at h
  induction fuel generalizing l s with
  | zero => rfl
  | succ k ih =>
    cases l with
    | nil => rfl
    | cons b l =>
      simp only [State.receive]
      split <;> simp [ih, h]

@[simp] theorem erase_takeByte (s : State) (b : Byte) (stopHigh : Bool) (h : [.link, .inbox, .notices] ⊆ F) :
    (s.takeByte b stopHigh).erase F = s.erase F := by
  simp only [List.cons_subset, List.nil_subset, and_true] at h
  simp only [State.takeByte]
  (repeat' split) <;> simp [h]

@[simp] theorem erase_takeGap (s : State) (h : [.link, .inbox, .notices] ⊆ F) : s.takeGap.erase F = s.erase F := by
  simp only [List.cons_subset, List.nil_subset, and_true] at h
  simp only [State.takeGap]
  split <;> simp [h]

@[simp] theorem erase_takeLastByte (s : State) (h : [.link, .inbox, .choice, .notices] ⊆ F) :
    s.takeLastByte.erase F = s.erase F := by
  simp only [List.cons_subset, List.nil_subset, and_true] at h
  simp only [State.takeLastByte]
  split
  · rfl
  · simp [h]
  · have freed (l : Link) (c : Nat) : ({ s with link := l, choice := c } : State).erase F = s.erase F := by
      simp [State.erase, h]
    (repeat' split) <;> simp [h, freed]

/-- A request served touches what its owner touches, and the link. -/
theorem erase_serve (kind tag : Byte) (owner : State → State × Reply) (s : State) (h : .link ∈ F)
    (ho : ∀ t, (owner t).1.erase F = t.erase F) : (State.serve kind tag owner s).erase F = s.erase F := by
  unfold State.serve
  rw [erase_with_link (owner _).1 _ h, ho, erase_with_link s _ h]

/-! ### Requests -/

@[simp] theorem erase_acceptOrder (s : State) (o : Order) (h : [.book, .regs, .inbox, .notices] ⊆ F) :
    (s.acceptOrder o).erase F = s.erase F := by
  simp only [List.cons_subset, List.nil_subset, and_true] at h
  simp only [State.acceptOrder]
  split <;> simp [h]

@[simp] theorem erase_cancelArmed (s : State) (n : Stand) (q : Seq)
    (h : [.splice, .regs, .map, .inbox, .choice, .notices] ⊆ F) : (s.cancelArmed n q).erase F = s.erase F :=
  erase_endOwed s n q _ _ h

@[simp] theorem erase_reqAddReject (s : State) (a b : Pos) (h : [.map, .inbox, .choice, .notices] ⊆ F) :
    (s.reqAddReject a b).1.erase F = s.erase F := by
  simp only [List.cons_subset, List.nil_subset, and_true] at h
  simp only [State.reqAddReject]
  (repeat' split) <;> simp [h]

@[simp] theorem erase_reqSetGrade (s : State) (c : Nat) (g : Grade) (h : .book ∈ F) :
    (s.reqSetGrade c g).1.erase F = s.erase F := by
  simp only [State.reqSetGrade]
  (repeat' split) <;> simp [h]

@[simp] theorem erase_reqAddOrder (s : State) (o : OrderSpec) (h : [.book, .regs, .inbox, .notices] ⊆ F) :
    (s.reqAddOrder o).1.erase F = s.erase F := by
  simp only [List.cons_subset, List.nil_subset, and_true] at h
  simp only [State.reqAddOrder]
  (repeat' split) <;> simp [h]

@[simp] theorem erase_reqChangeCount (s : State) (id n a : Nat) (h : [.book, .regs, .inbox, .notices] ⊆ F) :
    (s.reqChangeCount id n a).1.erase F = s.erase F := by
  simp only [List.cons_subset, List.nil_subset, and_true] at h
  simp only [State.reqChangeCount]
  (repeat' split) <;> simp [h]

@[simp] theorem erase_reqCancelOrder (s : State) (id : Nat) (h : [.book, .regs, .inbox, .notices] ⊆ F) :
    (s.reqCancelOrder id).1.erase F = s.erase F := by
  simp only [List.cons_subset, List.nil_subset, and_true] at h
  simp only [State.reqCancelOrder]
  (repeat' split) <;> simp [h]

@[simp] theorem erase_reqHoldKnife (s : State) (h : .cutoff ∈ F) : s.reqHoldKnife.1.erase F = s.erase F := by
  simp only [State.reqHoldKnife]
  (repeat' split) <;> simp [h]

@[simp] theorem erase_reqReleaseKnife (s : State) (h : .cutoff ∈ F) : s.reqReleaseKnife.1.erase F = s.erase F := by
  simp only [State.reqReleaseKnife]
  (repeat' split) <;> simp [h]

@[simp] theorem erase_reqReadKnife (s : State) (h : .choice ∈ F) : s.reqReadKnife.1.erase F = s.erase F := by
  simp [State.reqReadKnife, h]

@[simp] theorem erase_reqClearStation (s : State) (c : Nat) (h : [.slitter, .notices] ⊆ F) :
    (s.reqClearStation c).1.erase F = s.erase F := by
  simp only [List.cons_subset, List.nil_subset, and_true] at h
  simp only [State.reqClearStation]
  (repeat' split) <;> simp [h]

@[simp] theorem erase_reqReadSlitter (s : State) (h : .choice ∈ F) : s.reqReadSlitter.1.erase F = s.erase F := by
  simp [State.reqReadSlitter, h]

@[simp] theorem erase_reqLoadRoll (s : State) (n m : Nat) (r : RollSpec) (h : [.stands, .notices] ⊆ F) :
    (s.reqLoadRoll n m r).1.erase F = s.erase F := by
  simp only [List.cons_subset, List.nil_subset, and_true] at h
  simp only [State.reqLoadRoll]
  (repeat' split) <;> simp [h]

@[simp] theorem erase_reqMarkReady (s : State) (n m : Nat) (h : [.stands, .inbox, .notices] ⊆ F) :
    (s.reqMarkReady n m).1.erase F = s.erase F := by
  simp only [List.cons_subset, List.nil_subset, and_true] at h
  simp only [State.reqMarkReady]
  (repeat' split) <;> simp [h]

@[simp] theorem erase_reqUnloadRoll (s : State) (n m : Nat) (h : [.stands, .notices] ⊆ F) :
    (s.reqUnloadRoll n m).1.erase F = s.erase F := by
  simp only [List.cons_subset, List.nil_subset, and_true] at h
  simp only [State.reqUnloadRoll]
  (repeat' split) <;> simp [h]

@[simp] theorem erase_reqThread (s : State) (n m : Nat) (h : [.stands, .inbox, .notices] ⊆ F) :
    (s.reqThread n m).1.erase F = s.erase F := by
  simp only [List.cons_subset, List.nil_subset, and_true] at h
  simp only [State.reqThread]
  (repeat' split) <;> simp [h]

@[simp] theorem erase_reqClearStand (s : State) (n : Nat) (m : Option Nat)
    (h : [.stands, .map, .inbox, .choice, .notices] ⊆ F) : (s.reqClearStand n m).1.erase F = s.erase F := by
  simp only [List.cons_subset, List.nil_subset, and_true] at h
  simp only [State.reqClearStand]
  (repeat' split) <;> simp [h]

@[simp] theorem erase_reqReadStand (s : State) (n : Nat) : (s.reqReadStand n).1.erase F = s.erase F := by
  simp only [State.reqReadStand]
  (repeat' split) <;> simp

@[simp] theorem erase_reqSpliceNow (s : State) (n : Nat) (h : [.splice, .regs, .map, .inbox, .choice, .notices] ⊆ F) :
    (s.reqSpliceNow n).1.erase F = s.erase F := by
  simp only [List.cons_subset, List.nil_subset, and_true] at h
  simp only [State.reqSpliceNow]
  (repeat' split) <;> simp [h]

@[simp] theorem erase_reqCancelSplice (s : State) (n : Nat) (h : [.splice, .regs, .map, .inbox, .choice, .notices] ⊆ F) :
    (s.reqCancelSplice n).1.erase F = s.erase F := by
  simp only [List.cons_subset, List.nil_subset, and_true] at h
  simp only [State.reqCancelSplice]
  (repeat' split) <;> simp [h]

@[simp] theorem erase_reqReadSplice (s : State) (n : Nat) (h : .choice ∈ F) : (s.reqReadSplice n).1.erase F = s.erase F := by
  simp only [State.reqReadSplice]
  (repeat' split) <;> simp [h]

@[simp] theorem erase_reqSetSupply (s : State) (x : Nat) (h : [.heat, .map, .inbox, .choice, .notices] ⊆ F) :
    (s.reqSetSupply x).1.erase F = s.erase F := by
  simp only [List.cons_subset, List.nil_subset, and_true] at h
  simp only [State.reqSetSupply]
  (repeat' split) <;> simp [h]

@[simp] theorem erase_reqEnableZone (s : State) (z x : Nat) (h : [.heat, .map, .inbox, .choice, .notices] ⊆ F) :
    (s.reqEnableZone z x).1.erase F = s.erase F := by
  simp only [List.cons_subset, List.nil_subset, and_true] at h
  simp only [State.reqEnableZone]
  (repeat' split) <;> simp [h]

@[simp] theorem erase_reqReadZones (s : State) (h : .choice ∈ F) : s.reqReadZones.1.erase F = s.erase F := by
  simp [State.reqReadZones, h]

@[simp] theorem erase_reqClearGlue (s : State) (u : Nat) (h : [.glue, .map, .inbox, .choice, .notices] ⊆ F) :
    (s.reqClearGlue u).1.erase F = s.erase F := by
  simp only [List.cons_subset, List.nil_subset, and_true] at h
  simp only [State.reqClearGlue]
  (repeat' split) <;> simp [h]

@[simp] theorem erase_reqReadGlue (s : State) (h : .choice ∈ F) : s.reqReadGlue.1.erase F = s.erase F := by
  simp [State.reqReadGlue, h]

@[simp] theorem erase_reqSetLevel (s : State) (i v : Nat) (h : .notices ∈ F) : (s.reqSetLevel i v).1.erase F = s.erase F := by
  simp only [State.reqSetLevel]
  (repeat' split) <;> simp [h]

@[simp] theorem erase_reqSetThreshold (s : State) (v : Nat) (h : .notices ∈ F) :
    (s.reqSetThreshold v).1.erase F = s.erase F := by
  simp only [State.reqSetThreshold]
  (repeat' split) <;> simp [h]

@[simp] theorem erase_reqRun (s : State) (h : [.gov, .inbox, .notices] ⊆ F) : s.reqRun.1.erase F = s.erase F := by
  simp only [List.cons_subset, List.nil_subset, and_true] at h
  simp only [State.reqRun]
  (repeat' split) <;> simp [h]

@[simp] theorem erase_reqStop (s : State) (h : [.gov, .inbox, .notices] ⊆ F) : s.reqStop.1.erase F = s.erase F := by
  simp only [List.cons_subset, List.nil_subset, and_true] at h
  simp only [State.reqStop]
  (repeat' split) <;> simp [h]

@[simp] theorem erase_reqResume (s : State) (h : [.gov, .inbox, .notices] ⊆ F) : s.reqResume.1.erase F = s.erase F := by
  simp only [List.cons_subset, List.nil_subset, and_true] at h
  simp only [State.reqResume]
  (repeat' split) <;> simp [h]

@[simp] theorem erase_reqSetSpeed (s : State) (v : Nat) (h : .limits ∈ F) : (s.reqSetSpeed v).1.erase F = s.erase F := by
  simp [State.reqSetSpeed, h]

@[simp] theorem erase_reqConfigure (s : State) (sec : Section)
    (h : [.cfg, .stands, .cutoff, .scanner, .gov, .map, .inbox, .choice, .notices] ⊆ F) : (s.reqConfigure sec).1.erase F = s.erase F := by
  simp only [List.cons_subset, List.nil_subset, and_true] at h
  simp only [State.reqConfigure]
  (repeat' split) <;> simp [h]

@[simp] theorem erase_reqReadGrade (s : State) (c : Nat) : (s.reqReadGrade c).1.erase F = s.erase F := by
  simp only [State.reqReadGrade]
  (repeat' split) <;> simp

@[simp] theorem erase_reqReadOrder (s : State) (id : Nat) : (s.reqReadOrder id).1.erase F = s.erase F := by
  simp only [State.reqReadOrder]
  (repeat' split) <;> simp

end Sys2Proof.Machine

/-! One step, and what an invariant of it must be shown to be kept by. -/

namespace Sys2Proof.Machine

/-! ### The effect of a command -/

/-- A command's own effect, before the end of its step: a field command's rule, or a request handed to its owner. -/
def effect : Instr → State → State
  | .powerOn strap1 strap2 estop pressure => fun s => s.powerOn strap1 strap2 estop pressure
  | .forwardCount => State.takeForward
  | .reverseCount => State.takeReverse
  | .governorPeriodExpiry => State.takeGovernorPeriod
  | .planRefreshExpiry => State.placementPass
  | .zonePeriodExpiry => State.takeZonePeriod
  | .knifeCycleExpiry => State.takeCycleExpiry
  | .setTimerExpiry st => fun s => s.takeSetExpiry st
  | .setDone st => fun s => s.takeSetDone st
  | .pasteFail n => fun s => s.takePasteFail n
  | .cutFail n => fun s => s.takeCutFail n
  | .transferExpiry n => fun s => s.takeTransferExpiry n
  | .pasted n => fun s => s.takePasted n
  | .cutInput n => fun s => s.takeCutInput n
  | .webLost n => fun s => s.takeWebLost n
  | .prepared n => fun s => s.takePrepared n
  | .transferDone => State.takeTransferDone
  | .stackTaken => State.takeStackTaken
  | .arrived u => fun s => s.takeArrived u
  | .moveTimerExpiry u => fun s => s.takeMoveExpiry u
  | .pressureOkChange ok => fun s => s.takePressure ok
  | .settleExpiry => State.takeSettleExpiry
  | .conversionComplete raw => fun s => s.takeConversion raw
  | .holdExpiry z => fun s => s.takeHoldExpiry z
  | .belowTimerExpiry z => fun s => s.takeBelowExpiry z
  | .estopAssert => State.takeAssert
  | .estopRelease => State.takeRelease
  | .byteReceived b stopHigh => fun s => s.takeByte b stopHigh
  | .gapTimerExpiry => State.takeGap
  | .lastByteSent => State.takeLastByte
  | .unknownRequest kind tag => State.serve kind tag (fun t => (t, .just .unknownRequest))
  | i => match encodeRequest i with
    | some f => State.serve f.kind f.tag (fun t => t.answer i)
    | none => id

/-- Every command is its effect and the end of the step. -/
theorem exec_eq_run (i : Instr) (s : State) : exec i s = s.run (effect i) := by
  cases i <;> rfl

theorem exec_eq (i : Instr) (s : State) : exec i s = .next (effect i { s with inbox := [] }).finish := exec_eq_run i s

/-- A request of the list is handed to its owner. -/
theorem effect_of_encodeRequest {i : Instr} {f : Frame} (h : encodeRequest i = some f) :
    effect i = State.serve f.kind f.tag (fun t => t.answer i) := by
  cases i <;> cases h <;> rfl

/-! ### The step -/

theorem step_nil {s : State} (h : s.pending = []) : step s = .next s := by
  simp [step, h]

theorem step_cons (s : State) (c : Instr) (rest : List Instr) :
    step { s with pending := c :: rest } = exec c { s with pending := rest } := rfl

/-- Settles O1. -/
theorem stepTakesFrontCommand : Obligations.StepTakesFrontCommand :=
  fun s => ⟨step_cons s, step_nil⟩

/-! ### Invariants of the step -/

/-- What keeps a property of the state through every step: it does not look at the parts in `F`, and the owners' limits, the notices, the
link's replies, the field commands, the events and the requests each keep it. -/
structure KeptByStep (F : List Part) (P : State → Prop) : Prop where
  erased : ∀ {s t : State}, t.erase F = s.erase F → P s → P t
  waiting : [.pending, .inbox] ⊆ F
  limits : ∀ s : State, P s → P s.refreshLimits
  notice : ∀ s : State, P s → P s.offerNotice
  link : ∀ (s : State) (l : Link), l.queue = s.link.queue → P s → P { s with link := l }
  field : ∀ (s : State) (i : Instr), encodeRequest i = none → (∀ k t, i ≠ .unknownRequest k t) → P s → P (effect i s)
  event : ∀ (s : State) (e : Ev), e.isRequest = false → P s → P (s.handle e)
  answer : ∀ (s : State) (i : Instr), P s → P (s.answer i).1

namespace KeptByStep

variable {F : List Part} {P : State → Prop} (hP : KeptByStep F P)
include hP

theorem inbox {s : State} (l : List Ev) (h : P s) : P { s with inbox := l } :=
  hP.erased (erase_with_inbox s l (hP.waiting (by simp))) h

theorem pending {s : State} (l : List Instr) (h : P s) : P { s with pending := l } :=
  hP.erased (erase_with_pending s l (hP.waiting (by simp))) h

theorem serve (kind tag : Byte) (owner : State → State × Reply) (ho : ∀ t, P t → P (owner t).1) {s : State} (h : P s) :
    P (State.serve kind tag owner s) := by
  refine hP.link _ _ ?_ (ho _ (hP.link s _ rfl h))
  simp only [Link.sendReply]
  split <;> rfl

theorem handle {s : State} (e : Ev) (h : P s) : P (s.handle e) := by
  cases e with
  | request f =>
    refine hP.serve f.kind f.tag (fun t => match decodeRequest f with
      | .ok i => t.answer i
      | .error st => (t, .just st)) (fun t ht => ?_) h
    split
    · exact hP.answer t _ ht
    · exact ht
  | _ => exact hP.event s _ rfl h

theorem drain (k : Nat) {s : State} (h : P s) : P (State.drain k s) := by
  induction k generalizing s with
  | zero => exact h
  | succ k ih =>
    cases hs : s.inbox with
    | nil => rwa [drain_quiet _ _ hs]
    | cons e l =>
      rw [drain_cons k s e l hs]
      exact ih (hP.limits _ (hP.handle e (hP.inbox l h)))

theorem finish {s : State} (h : P s) : P s.finish :=
  hP.notice _ (hP.inbox [] (hP.drain _ (hP.limits s h)))

theorem effect {s : State} (i : Instr) (h : P s) : P (effect i s) := by
  cases hi : encodeRequest i with
  | some f =>
    rw [effect_of_encodeRequest hi]
    exact hP.serve _ _ _ (fun t ht => hP.answer t i ht) h
  | none =>
    by_cases hu : ∃ k t, i = .unknownRequest k t
    · obtain ⟨k, t, rfl⟩ := hu
      exact hP.serve k t (fun u => (u, .just .unknownRequest)) (fun _ hu => hu) h
    · exact hP.field s i hi (fun k t e => hu ⟨k, t, e⟩) h

/-- A property kept by each of the pieces of a step is kept by the step. -/
theorem step {s t : State} (h : P s) (hst : step s = .next t) : P t := by
  unfold Machine.step at hst
  split at hst
  · cases hst
    exact h
  · rw [exec_eq] at hst
    cases hst
    exact hP.finish (hP.effect _ (hP.inbox [] (hP.pending _ h)))

end KeptByStep

end Sys2Proof.Machine

/-! Speeds through a step (R3, R179, R181). -/

namespace Sys2Proof.Machine

/-- The parts no speed lies in. -/
def speedless : List Part :=
  [.pending, .inbox, .choice, .regs, .map, .book, .cutoff, .slitter, .stacker, .stands, .splice, .scanner, .heat, .glue, .cfg,
    .link, .notices]

namespace State.SpeedOk

variable {s t : State}

theorem of_erase (h : t.erase speedless = s.erase speedless) (hs : s.SpeedOk) : t.SpeedOk := by
  rwa [State.SpeedOk, gov_of_erase h (by decide), limits_of_erase h (by decide), tracker_of_erase h (by decide)]

/-! ### The Governor -/

/-- Speeds within bounds stay so under a Governor record whose reference is 0 where the line does not move. -/
theorem with_gov (hs : s.SpeedOk) {g : Governor}
    (hmode : g.mode ≠ .running → g.mode ≠ .stopping → g.reference = 0) (href : g.reference ≤ 4500) (htarget : g.target ≤ 4500) :
    ({ s with gov := g } : State).SpeedOk := ⟨hmode, href, htarget, hs.2.2.2⟩

/-- The mode, the reference and the target left as they are. -/
theorem with_gov_same (hs : s.SpeedOk) {g : Governor} (hm : g.mode = s.gov.mode)
    (hr : g.reference = s.gov.reference) (ht : g.target = s.gov.target) : ({ s with gov := g } : State).SpeedOk := by
  refine hs.with_gov ?_ (hr ▸ hs.2.1) (ht ▸ hs.2.2.1)
  rw [hm, hr]
  exact hs.1

theorem mark (hs : s.SpeedOk) (i : NoticeSource) : (s.mark i).SpeedOk := hs.of_erase (by simp [speedless])

theorem enterMode (hs : s.SpeedOk) {m : Mode} (h : m ≠ .running → m ≠ .stopping → s.gov.reference = 0) :
    (s.enterMode m).SpeedOk :=
  of_erase (by simp [State.enterMode, speedless]) (hs.with_gov (g := (s.enterMode m).gov) h hs.2.1 hs.2.2.1)

theorem takeHalt (hs : s.SpeedOk) (n : Stand) (c : HaltCause) : (s.takeHalt n c).SpeedOk := by
  simp only [State.takeHalt]
  split
  · exact (hs.with_gov_same rfl rfl rfl).enterMode (fun _ h => absurd rfl h)
  · split
    · exact hs
    · exact (hs.with_gov_same rfl rfl rfl).mark srcLineMode
  · exact hs
  · next hmode => exact (hs.with_gov_same rfl rfl rfl).enterMode (fun _ _ => hs.1 (by simp [hmode]) (by simp [hmode]))
  · exact hs.with_gov_same rfl rfl rfl
  · exact hs

theorem enterEstopped (hs : s.SpeedOk) : s.enterEstopped.SpeedOk :=
  have stopped : ({ s with gov := { s.gov with
      reference := 0, fast := false,
      haltOwed := s.gov.haltOwed || (decide (s.gov.mode = .halted) || decide (s.gov.mode = .stopping) && s.gov.fast) } } :
      State).SpeedOk := hs.with_gov (fun _ _ => rfl) (Nat.zero_le _) hs.2.2.1
  of_erase (by simp [State.enterEstopped, speedless]) (stopped.enterMode (m := .estopped) (fun _ _ => rfl))

theorem takeAssert (hs : s.SpeedOk) : s.takeAssert.SpeedOk := by
  simp only [State.takeAssert]
  split
  · exact of_erase (by simp [speedless]) (hs.with_gov_same (g := { s.gov with estopLine := true }) rfl rfl rfl)
  · exact hs.with_gov_same rfl rfl rfl
  · exact enterEstopped (hs.with_gov_same rfl rfl rfl)

theorem endStop (hs : s.SpeedOk) : s.endStop.SpeedOk := by
  simp only [State.endStop]
  split
  · next h =>
    split
    · exact (hs.with_gov_same rfl rfl rfl).enterMode (fun _ _ => h.2.1)
    · exact hs.enterMode (fun _ _ => h.2.1)
  · exact hs

/-- R180: no target passes REQUESTED. -/
theorem target_le_requested (l : Limits) : l.target ≤ l.requested := by
  have fold (m : List Nat) (a : Nat) : m.foldl min a ≤ a := by
    induction m generalizing a with
    | nil => exact le_rfl
    | cons x m ih => exact (ih _).trans (min_le_left _ _)
  exact fold _ _

theorem takeGovStep (hs : s.SpeedOk) : s.takeGovStep.SpeedOk := by
  obtain ⟨hrest, href, htarget, hrequested, hmeasured⟩ := hs
  have hl := target_le_requested s.limits
  have found : s.findTarget.1 ≤ 4500 := by
    unfold State.findTarget
    split <;> dsimp only <;> omega
  have stepped : s.stepReference s.findTarget.1 ≤ 4500 := by
    simp only [State.stepReference]
    (repeat' split) <;> omega
  have atRest (hr : s.gov.mode ≠ .running) (hst : s.gov.mode ≠ .stopping) : s.stepReference s.findTarget.1 = 0 := by
    simp only [State.stepReference]
  have moved : ({ s with gov := { s.gov with
      target := s.findTarget.1, source := s.findTarget.2, reference := s.stepReference s.findTarget.1 } } : State).SpeedOk :=
    with_gov ⟨hrest, href, htarget, hrequested, hmeasured⟩ atRest stepped found
  exact endStop (of_erase (by simp [speedless]) moved)

theorem leaveUnconfigured (hs : s.SpeedOk) : s.leaveUnconfigured.SpeedOk := by
  simp only [State.leaveUnconfigured]
  split
  · next h =>
    have stopped := hs.enterMode (m := .stopped) (fun _ _ => hs.1 (by simp [h.1]) (by simp [h.1]))
    split
    · exact stopped.takeAssert
    · exact stopped
  · exact hs

/-! ### Measured speed and the limits -/

theorem windowSpeed_le (s : State) : s.windowSpeed ≤ 4500 := by
  unfold State.windowSpeed
  split
  · exact min_le_left _ _
  · exact Nat.zero_le _

theorem takePublish (hs : s.SpeedOk) : s.takePublish.SpeedOk :=
  of_erase (by simp [State.takePublish, speedless])
    (show ({ s with tracker := { s.tracker with measured := s.windowSpeed, window := 0 } } : State).SpeedOk from
      ⟨hs.1, hs.2.1, hs.2.2.1, hs.2.2.2.1, windowSpeed_le s⟩)

theorem with_tracker (hs : s.SpeedOk) {t : Tracker} (h : t.measured = s.tracker.measured) :
    ({ s with tracker := t } : State).SpeedOk :=
  ⟨hs.1, hs.2.1, hs.2.2.1, hs.2.2.2.1, h ▸ hs.2.2.2.2⟩

theorem takeForward (hs : s.SpeedOk) : s.takeForward.SpeedOk := by
  simp only [State.takeForward]
  split
  · exact hs.with_tracker rfl
  · refine of_erase ?_
      (hs.with_tracker (t := { s.tracker with pos := s.tracker.pos + 1, window := s.tracker.window + 1 }) rfl)
    rw [erase_postTogether _ _ (by simp [speedless]), erase_with_regs _ _ (by simp [speedless]),
      erase_each _ _ _ (fun n t => erase_drawStand n t (by simp [speedless]))]
    simp [State.erase, speedless]

theorem refreshLimits (hs : s.SpeedOk) : s.refreshLimits.SpeedOk :=
  of_erase (by simp [State.refreshLimits, speedless])
    (show ({ s with limits := s.limitsNow } : State).SpeedOk from hs)

/-! ### Requests and resets -/

theorem reset : State.reset.SpeedOk := by
  refine ⟨fun _ _ => rfl, ?_⟩
  decide

theorem reqResume (hs : s.SpeedOk) : s.reqResume.1.SpeedOk := by
  simp only [State.reqResume]
  split
  · next h => exact (hs.with_gov_same rfl rfl rfl).enterMode (fun _ _ => hs.1 (by simp [h]) (by simp [h]))
  · next h =>
    have rest := hs.1 (by simp [h]) (by simp [h])
    have stopped : ({ s with gov := { s.gov with haltOwed := false } }.enterMode .stopped).SpeedOk :=
      (hs.with_gov_same rfl rfl rfl).enterMode (fun _ _ => rest)
    (repeat' split)
    · exact hs
    · exact stopped.enterMode (fun _ _ => rest)
    · exact stopped
  · exact hs

theorem reqRun (hs : s.SpeedOk) : s.reqRun.1.SpeedOk := by
  simp only [State.reqRun]
  (repeat' split)
  · exact hs
  · exact hs
  · exact hs.enterMode (fun h => absurd rfl h)

theorem reqStop (hs : s.SpeedOk) : s.reqStop.1.SpeedOk := by
  simp only [State.reqStop]
  split
  · exact (hs.with_gov_same rfl rfl rfl).enterMode (fun _ h => absurd rfl h)
  · exact hs
  · exact hs

theorem reqSetSpeed (hs : s.SpeedOk) (v : Nat) : (s.reqSetSpeed v).1.SpeedOk :=
  ⟨hs.1, hs.2.1, hs.2.2.1, min_le_left _ _, hs.2.2.2.2⟩

theorem reqConfigure (hs : s.SpeedOk) (sec : Section) : (s.reqConfigure sec).1.SpeedOk := by
  simp only [State.reqConfigure]
  split
  · exact hs
  · exact leaveUnconfigured (hs.of_erase (by simp [speedless]))

theorem powerOn (s : State) (a b estop pressure : Bool) : (s.powerOn a b estop pressure).SpeedOk := by
  have fresh (p : List Instr) (c : Nat) (x : Heat) (l : Link) :
      ({ State.reset with pending := p, choice := c, heat := x, gov := Governor.resetWith false, link := l } : State).SpeedOk :=
    reset
  simp only [State.powerOn]
  split
  · exact (fresh _ _ _ _).takeAssert
  · exact fresh _ _ _ _

theorem reqResetPart (hs : s.SpeedOk) : s.reqResetPart.1.SpeedOk := by
  simp only [State.reqResetPart]
  split
  · exact hs
  · exact reset

/-! ### The step -/

theorem answer (hs : s.SpeedOk) (i : Instr) : (s.answer i).1.SpeedOk := by
  cases i with
  | resume => exact hs.reqResume
  | run => exact hs.reqRun
  | stop => exact hs.reqStop
  | setSpeed _ v => exact hs.reqSetSpeed v
  | configure _ sec => exact hs.reqConfigure sec
  | resetPart => exact hs.reqResetPart
  | _ => exact hs.of_erase (by simp [State.answer, speedless, State.reqReadLine, State.reqReadMap, State.reqListOrders,
      State.reqReadCompleted, State.reqReadStacker, State.reqReadSummary])

theorem field (hs : s.SpeedOk) (i : Instr) (hi : encodeRequest i = none) (hu : ∀ k t, i ≠ .unknownRequest k t) :
    (effect i s).SpeedOk := by
  cases i with
  | powerOn a b c d => exact powerOn s a b c d
  | forwardCount => exact hs.takeForward
  | reverseCount => exact hs.with_tracker rfl
  | estopAssert => exact hs.takeAssert
  | estopRelease => exact hs.with_gov_same rfl rfl rfl
  | unknownRequest k t => exact absurd rfl (hu k t)
  | _ => cases hi <;> exact hs.of_erase (by simp [effect, speedless, State.takeGovernorPeriod, State.takeCycleExpiry])

theorem event (hs : s.SpeedOk) (e : Ev) (he : e.isRequest = false) : (s.handle e).SpeedOk := by
  cases e with
  | halt n c => exact hs.takeHalt n c
  | publish => exact hs.takePublish
  | govStep => exact hs.takeGovStep
  | runOut => exact mark (hs.with_gov_same rfl rfl rfl) srcLineMode
  | accepted => exact hs.with_gov_same rfl rfl rfl
  | crossing p c => cases p <;> exact hs.of_erase (by simp [State.handle, State.takeCrossing, speedless])
  | request f => cases he
  | _ => exact hs.of_erase (by simp [State.handle, speedless])

end State.SpeedOk

theorem keptByStep_SpeedOk : KeptByStep speedless State.SpeedOk where
  erased := State.SpeedOk.of_erase
  waiting := by simp [speedless]
  limits _ hs := hs.refreshLimits
  notice _ hs := hs.of_erase (by simp [speedless])
  link _ _ _ hs := hs.of_erase (by simp [speedless])
  field _ i hi hu hs := hs.field i hi hu
  event _ e he hs := hs.event e he
  answer _ i hs := hs.answer i

/-- Settles O8: the Governor's own steps, the halts, the emergency stop and the requests that change the mode each keep the reference at
0 where the line does not move; no target passes REQUESTED, and measured speed is clamped. -/
theorem stepKeepsSpeeds : Obligations.StepKeepsSpeeds :=
  fun _ _ hs hst => keptByStep_SpeedOk.step hs hst

end Sys2Proof.Machine

/-! RUNNING rolls through a step (R95). -/

namespace Sys2Proof.Machine

/-! ### The arms of a stand -/

namespace StandRec

variable (r : StandRec) (m k : Arm)

@[simp] theorem arm_setArm_same (x : Option Roll) : (r.setArm m x).arm m = x := by cases m <;> rfl

@[simp] theorem arm_setArm_other (x : Option Roll) : (r.setArm m x).arm (Arm.other m) = r.arm (Arm.other m) := by cases m <;> rfl

@[simp] theorem arm_setArm_of_other (x : Option Roll) : (r.setArm (Arm.other m) x).arm m = r.arm m := by cases m <;> rfl

@[simp] theorem setArm_setArm (x y : Option Roll) : (r.setArm m x).setArm m y = r.setArm m y := by cases m <;> rfl

@[simp] theorem setArm_arm : r.setArm m (r.arm m) = r := by cases m <;> rfl

@[simp] theorem fault_setArm (x : Option Roll) : (r.setArm m x).fault = r.fault := by cases m <;> rfl

@[simp] theorem expiry_setArm (x : Option Roll) : (r.setArm m x).expiry = r.expiry := by cases m <;> rfl

@[simp] theorem breakFlag_setArm (x : Option Roll) : (r.setArm m x).breakFlag = r.breakFlag := by cases m <;> rfl

/-- An arm is the one named or the other. -/
theorem eq_or_eq_other : k = m ∨ k = Arm.other m := by cases m <;> cases k <;> simp [Arm.other]

@[simp] theorem other_other : Arm.other (Arm.other m) = m := by cases m <;> rfl

theorem runsOn_iff : r.runsOn m = true ↔ ∃ x, r.arm m = some x ∧ x.state = .running := by
  unfold runsOn
  cases r.arm m <;> simp

/-- R95: at most one arm holds a RUNNING roll. -/
def OneRunning : Prop := (r.runsOn .a && r.runsOn .b) = false

variable {r m}

theorem OneRunning.of_imp {q : StandRec} (h : ∀ k, q.runsOn k = true → r.runsOn k = true) (hr : r.OneRunning) :
    q.OneRunning := by
  unfold OneRunning at *
  cases ha : q.runsOn .a with
  | false => rfl
  | true =>
    cases hb : q.runsOn .b with
    | false => rfl
    | true => simp [h .a ha, h .b hb] at hr

theorem OneRunning.of_other (m : Arm) (h : r.runsOn (Arm.other m) = false) : r.OneRunning := by
  unfold OneRunning
  cases m <;> simp_all [Arm.other]

/-- A change of the roll on an arm that makes no roll RUNNING. -/
theorem runsOn_updArm_imp {f : Roll → Roll} (hf : ∀ x, r.arm m = some x → (f x).state = .running → x.state = .running) :
    (r.updArm m f).runsOn k = true → r.runsOn k = true := by
  simp only [runsOn_iff, updArm]
  obtain rfl | rfl := eq_or_eq_other m k
  · simp only [arm_setArm_same, Option.map_eq_some_iff]
    rintro ⟨_, ⟨x, hx, rfl⟩, hr⟩
    exact ⟨x, hx, hf x hx hr⟩
  · simp

theorem OneRunning.updArm {f : Roll → Roll} (hr : r.OneRunning)
    (hf : ∀ x, r.arm m = some x → (f x).state = .running → x.state = .running) : (r.updArm m f).OneRunning :=
  OneRunning.of_imp (fun k => runsOn_updArm_imp k hf) hr

/-- A roll that is not RUNNING, or takes the place of a RUNNING one, put on an arm. -/
theorem OneRunning.setArm {x : Option Roll} (hr : r.OneRunning)
    (hx : ∀ y, x = some y → y.state = .running → r.runsOn m = true) : (r.setArm m x).OneRunning := by
  refine OneRunning.of_imp (fun k hk => ?_) hr
  obtain rfl | rfl := eq_or_eq_other m k
  · obtain ⟨y, hy, hrun⟩ := (runsOn_iff _ _).mp hk
    exact hx y (by simpa using hy) hrun
  · rw [runsOn_iff] at hk ⊢
    simpa using hk

theorem spend_not_running (x : Roll) : x.spend.state ≠ .running := by
  unfold Roll.spend
  split
  · simp
  · assumption

/-- R103, R108: one roll becomes RUNNING where the other is spent. -/
theorem OneRunning.change (r : StandRec) (m : Arm) : ((r.updArm (Arm.other m) Roll.spend).updArm m Roll.run).OneRunning := by
  apply OneRunning.of_other m
  rw [Bool.eq_false_iff, ne_eq, runsOn_iff]
  simp only [StandRec.updArm, arm_setArm_other, arm_setArm_same, Option.map_eq_some_iff]
  rintro ⟨_, ⟨x, -, rfl⟩, h⟩
  exact spend_not_running x h

theorem OneRunning.makeRunning (hr : r.OneRunning) (m : Arm) : (r.makeRunning m).OneRunning := by
  unfold StandRec.makeRunning
  split
  · exact hr
  · exact OneRunning.change r m

theorem running_eq_none : r.running = none ↔ ∀ m, r.runsOn m = false := by
  unfold running
  constructor
  · intro h m
    cases m <;> cases ha : r.runsOn .a <;> cases hb : r.runsOn .b <;> simp_all
  · intro h
    simp [h]

theorem runsOn_of_running (h : r.running = some m) : r.runsOn m = true := by
  unfold running at h
  split at h
  · cases h
    assumption
  · split at h
    · cases h
      assumption
    · cases h

end StandRec

/-! ### The stands -/

/-- The parts no roll lies in. -/
def rollless : List Part :=
  [.pending, .inbox, .choice, .tracker, .regs, .map, .book, .cutoff, .slitter, .stacker, .splice, .scanner, .heat, .glue, .gov,
    .cfg, .limits, .link, .notices]

namespace State.RollsOk

variable {s t : State}

theorem of_erase (h : t.erase rollless = s.erase rollless) (hs : s.RollsOk) : t.RollsOk := by
  simpa only [State.RollsOk, State.stand, stands_of_erase h (by decide)] using hs

theorem setStand (hs : s.RollsOk) (n : Stand) {r : StandRec} (hr : r.OneRunning) : (s.setStand n r).RollsOk := by
  intro k
  by_cases hk : k = n
  · subst hk
    rwa [State.stand_setStand]
  · rw [State.stand_setStand_other _ _ hk]
    exact hs k

theorem updStand (hs : s.RollsOk) (n : Stand) {f : StandRec → StandRec} (hf : (s.stand n).OneRunning → (f (s.stand n)).OneRunning) :
    (s.updStand n f).RollsOk := hs.setStand n (hf (hs n))

theorem each {α : Type} {f : α → State → State} (hf : ∀ x {t : State}, t.RollsOk → (f x t).RollsOk) (l : List α) (hs : s.RollsOk) :
    (s.each l f).RollsOk := by
  unfold State.each
  induction l generalizing s with
  | nil => exact hs
  | cons x l ih => exact ih (hf x hs)

/-! ### Expiry -/

theorem raiseExpiry (hs : s.RollsOk) (n : Stand) : (s.raiseExpiry n).RollsOk := by
  simp only [State.raiseExpiry]
  split
  · exact of_erase (by simp [rollless]) (hs.updStand n (f := fun r => { r with expiry := .raised }) id)
  · exact hs

theorem testExpiry (hs : s.RollsOk) (n : Stand) : (s.testExpiry n).RollsOk := by
  simp only [State.testExpiry]
  (repeat' split)
  · exact hs
  · exact raiseExpiry (hs.updStand n (f := fun r => { r with expiry := .due }) id) n
  · exact hs

theorem freshExpiry (hs : s.RollsOk) (n : Stand) : (s.freshExpiry n).RollsOk :=
  testExpiry (hs.updStand n (f := fun r => { r with expiry := .notDue }) id) n

theorem standsModeEntry (hs : s.RollsOk) : s.standsModeEntry.RollsOk := by
  simp only [State.standsModeEntry]
  split
  · exact hs.each (fun n _ ht => ht.raiseExpiry n) _
  · exact hs

theorem standsAccepted (hs : s.RollsOk) : s.standsAccepted.RollsOk :=
  hs.each (fun n _ ht => of_erase (by simp [rollless]) (ht.testExpiry n)) _

/-! ### Web losses and draws -/

theorem webLoss (hs : s.RollsOk) (n : Stand) (c : FaultCause) : (s.webLoss n c).RollsOk := by
  simp only [State.webLoss]
  split
  · exact hs
  · next m _ =>
    refine of_erase (by simp [rollless]) (hs.updStand n
      (f := fun r => { (r.updArm m Roll.spend).faultWith c with breakFlag := true }) (fun hr => ?_))
    exact hr.updArm (m := m) (fun x _ h => absurd h (StandRec.spend_not_running x))

theorem drawStand (hs : s.RollsOk) (n : Stand) : (State.drawStand n s).RollsOk := by
  simp only [State.drawStand]
  (repeat' split)
  · exact hs
  · exact hs
  · exact hs.updStand n (fun hr => hr.updArm (fun _ _ h => h))

theorem takeDecrement (hs : s.RollsOk) (n : Stand) : (s.takeDecrement n).RollsOk := by
  simp only [State.takeDecrement]
  split
  · next m x hm hx =>
    have drawn (y : Roll) (b : Bool) : ((s.updStand n (fun r => r.setArm m (some y))).markIf b srcStands).RollsOk :=
      of_erase (by simp [rollless]) (hs.updStand n
        (f := fun r => r.setArm m (some y)) (fun hr => hr.setArm (fun _ _ _ => StandRec.runsOn_of_running hm)))
    have reported {t : State} (b : Bool) (ht : t.RollsOk) : (if b then t.post (.minRun n) else t).RollsOk := by
      split
      · exact of_erase (by simp [rollless]) ht
      · exact ht
    refine of_erase (erase_standsMarked _ _ (by decide)) ?_
    split
    · exact (reported _ ((drawn _ _).testExpiry n)).webLoss n .runOut
    · exact reported _ ((drawn _ _).testExpiry n)
  · exact hs

/-! ### Reports of the Splice Sequencer -/

theorem rollChange (hs : s.RollsOk) (n : Stand) (m : Arm) : (s.rollChange n m).RollsOk :=
  of_erase (by simp [State.rollChange, rollless])
    ((hs.updStand n (f := fun r => (r.updArm (Arm.other m) Roll.spend).updArm m Roll.run)
      (fun _ => StandRec.OneRunning.change _ m)).freshExpiry n)

theorem tapeSpent (hs : s.RollsOk) (n : Stand) (m : Arm) : (s.tapeSpent n m).RollsOk := by
  refine of_erase (by simp [State.tapeSpent, rollless]) (hs.updStand n
    (f := fun r => r.updArm m (fun x => if x.state = .ready then { x with state := .loaded } else x))
    (fun hr => hr.updArm (fun x _ => ?_)))
  split
  · exact fun h => nomatch h
  · exact id

theorem standFault (hs : s.RollsOk) (n : Stand) (c : FaultCause) : (s.standFault n c).RollsOk :=
  of_erase (by simp [State.standFault, rollless]) (hs.updStand n (f := fun r => r.faultWith c) id)

theorem takeTransferExpiry (hs : s.RollsOk) (n : Stand) : (s.takeTransferExpiry n).RollsOk := by
  simp only [State.takeTransferExpiry]
  (repeat' split)
  · exact hs
  · next q _ _ => exact of_erase (by simp [rollless]) (hs.rollChange n q.standby)
  · exact hs

theorem takePasteFail (hs : s.RollsOk) (n : Stand) : (s.takePasteFail n).RollsOk := by
  simp only [State.takePasteFail]
  (repeat' split)
  · exact hs
  · next q _ _ _ =>
    refine of_erase (erase_endOwed _ _ _ _ _ (by decide)) (standFault ?_ n .pasteLimit)
    exact of_erase (erase_updSpl _ _ _ (by decide)) (hs.tapeSpent n q.standby)
  · next q _ _ _ => exact of_erase (by simp [rollless]) (hs.tapeSpent n q.standby)
  · exact hs

theorem takeCutFail (hs : s.RollsOk) (n : Stand) : (s.takeCutFail n).RollsOk := by
  simp only [State.takeCutFail]
  (repeat' split)
  · exact hs
  · exact of_erase (by simp [rollless]) (hs.standFault n .cutFail)
  · exact hs

theorem takeWebLoss (hs : s.RollsOk) (n : Stand) : (s.takeWebLoss n).RollsOk := by
  simp only [State.takeWebLoss]
  (repeat' split)
  · exact of_erase (by simp [rollless]) hs
  · exact of_erase (by simp [rollless]) hs
  · next q _ _ =>
    refine of_erase (erase_endSeq _ _ _ _ _ _ (by decide)) (of_erase (erase_keepPlan _ _ _ (by decide)) ?_)
    refine of_erase (erase_addSpan _ _ _ _ _ (by decide)) (tapeSpent ?_ n q.standby)
    exact of_erase (erase_updSpl _ _ _ (by decide)) hs

theorem stopSplice (hs : s.RollsOk) (n : Stand) : (s.stopSplice n).RollsOk := by
  simp only [State.stopSplice]
  (repeat' split)
  · exact hs
  · exact of_erase (by simp [rollless]) hs
  · next q _ _ => exact of_erase (by simp [rollless]) ((hs.tapeSpent n q.standby).standFault n .spliceEstop)

theorem spliceModeEntry (hs : s.RollsOk) (before after : Mode) : (s.spliceModeEntry before after).RollsOk := by
  simp only [State.spliceModeEntry]
  split
  · exact hs.each (fun n _ ht => ht.stopSplice n) _
  · (repeat' split) <;> exact of_erase (by simp [rollless]) hs

theorem takeModeEntry (hs : s.RollsOk) (before after : Mode) : (s.takeModeEntry before after).RollsOk := by
  unfold State.takeModeEntry
  refine of_erase (erase_glueModeEntry _ _ (by decide)) (spliceModeEntry (standsModeEntry ?_) before after)
  exact of_erase (by simp [rollless]) hs

/-! ### Requests and inputs -/

theorem makeReady (hs : s.RollsOk) (n : Stand) (m : Arm) : (s.makeReady n m).RollsOk := by
  simp only [State.makeReady]
  (repeat' split)
  · next x _ _ =>
    exact of_erase (by simp [rollless]) (hs.updStand n (f := fun r => r.setArm m (some { x with state := .ready }))
      (fun hr => hr.setArm (by rintro _ ⟨⟩ ⟨⟩)))
  · exact hs
  · exact hs

theorem takePrepared (hs : s.RollsOk) (n : Stand) : (s.takePrepared n).RollsOk := by
  simp only [State.takePrepared]
  split
  · exact hs.makeReady n _
  · exact hs

theorem clearStand (hs : s.RollsOk) (n : Stand) (m : Option Arm) : (s.clearStand n m).RollsOk := by
  have named : (match m with | some x => s.updStand n (fun r => r.makeRunning x) | none => s).RollsOk := by
    split
    · exact hs.updStand n (fun hr => hr.makeRunning _)
    · exact hs
  refine of_erase (erase_standsMarked _ _ (by decide)) (freshExpiry (of_erase (erase_post _ _ (by decide)) ?_) n)
  refine updStand (f := fun r => { r with breakFlag := false, fault := none }) ?_ n id
  exact of_erase (erase_closeSpan _ _ _ (by decide)) named

theorem reqLoadRoll (hs : s.RollsOk) (n m : Nat) (r : RollSpec) : (s.reqLoadRoll n m r).1.RollsOk := by
  rcases hc : s.standCheck n m with e | ⟨k, q⟩ <;> simp only [State.reqLoadRoll, hc]
  · exact hs
  · have loaded : (s.updStand k (fun x => x.setArm q (some (RollSpec.loaded r)))).RollsOk :=
      hs.updStand k (fun hr => hr.setArm (by rintro _ ⟨⟩ ⟨⟩))
    split_ifs
    · exact hs
    · exact hs
    · exact hs
    · exact of_erase (by simp [rollless]) loaded

theorem reqMarkReady (hs : s.RollsOk) (n m : Nat) : (s.reqMarkReady n m).1.RollsOk := by
  simp only [State.reqMarkReady]
  (repeat' split) <;> try exact hs
  exact hs.makeReady _ _

theorem reqUnloadRoll (hs : s.RollsOk) (n m : Nat) : (s.reqUnloadRoll n m).1.RollsOk := by
  rcases hc : s.standCheck n m with e | ⟨k, q⟩ <;> simp only [State.reqUnloadRoll, hc]
  · exact hs
  · have unloaded : (s.updStand k (fun x => x.setArm q none)).RollsOk := hs.updStand k (fun hr => hr.setArm (by simp))
    (repeat' split)
    · exact hs
    · exact hs
    · exact hs
    · exact of_erase (by simp [rollless]) unloaded

theorem reqThread (hs : s.RollsOk) (n m : Nat) : (s.reqThread n m).1.RollsOk := by
  rcases hc : s.standCheck n m with e | ⟨k, q⟩ <;> simp only [State.reqThread, hc]
  · exact hs
  · by_cases hrun : (s.stand k).running = none
    · have threaded : (s.updStand k (fun r => r.updArm q Roll.run)).RollsOk := by
        refine hs.updStand k (fun _ => StandRec.OneRunning.of_other q ?_)
        rw [Bool.eq_false_iff, ne_eq, StandRec.runsOn_iff]
        simp only [StandRec.updArm, StandRec.arm_setArm_other]
        rw [← StandRec.runsOn_iff, StandRec.running_eq_none.mp hrun]
        exact Bool.false_ne_true
      (repeat' split)
      · exact hs
      · exact hs
      · exact hs
      · exact hs
      · exact of_erase (erase_standsMarked _ _ (by decide)) (freshExpiry threaded k)
    · rw [if_pos (Option.isSome_iff_ne_none.mpr hrun)]
      split <;> exact hs

theorem reqClearStand (hs : s.RollsOk) (n : Nat) (m : Option Nat) : (s.reqClearStand n m).1.RollsOk := by
  simp only [State.reqClearStand]
  (repeat' split) <;> first | exact hs | exact hs.clearStand _ _

theorem reqConfigure (hs : s.RollsOk) (sec : Section) : (s.reqConfigure sec).1.RollsOk := by
  simp only [State.reqConfigure]
  split
  · exact hs
  · refine of_erase (erase_leaveUnconfigured _ (by decide)) ?_
    cases sec with
    | stands v => exact standsAccepted (of_erase (erase_with_cfg _ _ (by decide)) hs)
    | _ => exact of_erase (by simp [State.applySection, rollless]) hs

theorem reset : State.reset.RollsOk := by
  intro n
  simp [State.stand, State.reset, StandRec.reset, StandRec.runsOn, StandRec.arm]

theorem takeForward (hs : s.RollsOk) : s.takeForward.RollsOk := by
  simp only [State.takeForward]
  split
  · exact hs
  · refine of_erase (erase_postTogether _ _ (by decide)) (of_erase (erase_with_regs _ _ (by decide)) ?_)
    exact each (fun n _ ht => ht.drawStand n) _ (show State.RollsOk { s with tracker := _, map := _ } from hs)

theorem powerOn (s : State) (a b estop pressure : Bool) : (s.powerOn a b estop pressure).RollsOk := by
  simp only [State.powerOn]
  split
  · exact of_erase (erase_takeAssert _ (by decide)) reset
  · exact reset

theorem reqResetPart (hs : s.RollsOk) : s.reqResetPart.1.RollsOk := by
  simp only [State.reqResetPart]
  split
  · exact hs
  · exact reset

/-! ### The step -/

theorem answer (hs : s.RollsOk) (i : Instr) : (s.answer i).1.RollsOk := by
  cases i with
  | loadRoll _ n m r => exact hs.reqLoadRoll n m r
  | markReady _ n m => exact hs.reqMarkReady n m
  | unloadRoll _ n m => exact hs.reqUnloadRoll n m
  | thread _ n m => exact hs.reqThread n m
  | clearStand _ n m => exact hs.reqClearStand n m
  | configure _ sec => exact hs.reqConfigure sec
  | resetPart => exact hs.reqResetPart
  | _ => exact hs.of_erase (by simp [State.answer, rollless, State.reqReadLine, State.reqReadMap, State.reqListOrders,
      State.reqReadCompleted, State.reqReadStacker, State.reqReadSummary])

theorem field (hs : s.RollsOk) (i : Instr) (hi : encodeRequest i = none) (hu : ∀ k t, i ≠ .unknownRequest k t) :
    (effect i s).RollsOk := by
  cases i with
  | powerOn a b c d => exact powerOn s a b c d
  | forwardCount => exact hs.takeForward
  | pasteFail n => exact hs.takePasteFail n
  | cutFail n => exact hs.takeCutFail n
  | transferExpiry n => exact hs.takeTransferExpiry n
  | webLost n => exact of_erase (by simp [effect, State.takeWebLost, rollless]) (hs.webLoss n .webLost)
  | prepared n => exact hs.takePrepared n
  | unknownRequest k t => exact absurd rfl (hu k t)
  | _ => cases hi <;> exact hs.of_erase (by simp [effect, rollless, State.takeGovernorPeriod, State.takeCycleExpiry,
      State.takeReverse])

theorem event (hs : s.RollsOk) (e : Ev) (he : e.isRequest = false) : (s.handle e).RollsOk := by
  cases e with
  | decrement n => exact hs.takeDecrement n
  | modeEntry before after => exact hs.takeModeEntry before after
  | webLoss n => exact hs.takeWebLoss n
  | crossing p c => cases p <;> exact hs.of_erase (by simp [State.handle, State.takeCrossing, rollless])
  | request f => cases he
  | _ => exact hs.of_erase (by simp [State.handle, rollless])

end State.RollsOk

theorem keptByStep_RollsOk : KeptByStep rollless State.RollsOk where
  erased := State.RollsOk.of_erase
  waiting := by simp [rollless]
  limits _ hs := hs.of_erase (by simp [rollless])
  notice _ hs := hs.of_erase (by simp [rollless])
  link _ _ _ hs := hs.of_erase (by simp [rollless])
  field _ i hi hu hs := hs.field i hi hu
  event _ e he hs := hs.event e he
  answer _ i hs := hs.answer i

/-- Settles O11: a roll becomes RUNNING only where the other one of the stand is spent (R103, R108) or none runs (R107). -/
theorem stepKeepsOneRunningRoll : Obligations.StepKeepsOneRunningRoll :=
  fun _ _ hs hst => keptByStep_RollsOk.step hs hst

end Sys2Proof.Machine

/-! Heat zones through a step (R143 to R146). -/

namespace Sys2Proof.Machine

/-! ### One zone -/

namespace ZoneRec

/-- R143, R144, R145: a zone that found OFF or WAITING_SUPPLY has output 0, I 0 and no hold, and the values of every zone lie in their
ranges. What a zone keeps while its setting or the header changes, before it finds its state again. -/
structure Tame (r : ZoneRec) : Prop where
  rest : r.state = .off ∨ r.state = .waitingSupply → r.output = 0 ∧ r.integral = 0 ∧ r.hold = .none
  output : r.output ≤ 1000
  low : -1000 ≤ r.integral
  high : r.integral ≤ 1000
  held : ∀ v t, r.hold = .holding v t → v ≤ 1000

/-- A tame zone whose state agrees with its setting and with the header. -/
structure Sound (h : Header) (r : ZoneRec) : Prop extends r.Tame where
  off : r.enabled = false → r.state = .off
  waiting : h ≠ .ready → r.state = .off ∨ r.state = .waitingSupply

variable {h : Header} {r q : ZoneRec}

/-- A zone record of which only fields no bound speaks of changed. -/
theorem Tame.congr (hr : r.Tame) (hs : q.state = r.state) (ho : q.output = r.output) (hi : q.integral = r.integral)
    (hh : q.hold = r.hold) : q.Tame where
  rest := by rw [hs, ho, hi, hh]; exact hr.rest
  output := ho ▸ hr.output
  low := hi ▸ hr.low
  high := hi ▸ hr.high
  held := hh ▸ hr.held

theorem holdAt_bounded (hr : r.Tame) (p : Nat) (new : ZoneState) {v t : Nat} (hv : r.holdAt p new = .holding v t) : v ≤ 1000 := by
  unfold holdAt at hv
  split at hv
  · split at hv
    · exact hr.held v t hv
    · split at hv
      · split at hv
        · cases hv
        · cases hv
          exact hr.output
      · cases hv
  · split at hv
    · cases hv
    · exact hr.held v t hv

theorem holdAt_rest (hr : r.Tame) (p : Nat) (hst : r.state = .off ∨ r.state = .waitingSupply) :
    r.holdAt p r.state = .none := by
  have hne : r.state ≠ .probeFault := by rcases hst with e | e <;> rw [e] <;> decide
  rw [holdAt, if_neg hne, if_neg hne]
  exact (hr.rest hst).2.2

theorem enter_state (r : ZoneRec) (p g : Nat) (new : ZoneState) : (r.enter p g new).state = new := by
  simp only [enter]
  split <;> rfl

theorem enter_enabled (r : ZoneRec) (p g : Nat) (new : ZoneState) : (r.enter p g new).enabled = r.enabled := by
  simp only [enter]
  split <;> rfl

theorem Tame.enter (hr : r.Tame) (p g : Nat) (new : ZoneState) : (r.enter p g new).Tame := by
  simp only [ZoneRec.enter]
  split
  · exact ⟨fun _ => ⟨rfl, rfl, rfl⟩, Nat.zero_le _, by simp [ZoneRec.rest], by simp [ZoneRec.rest], nofun⟩
  · next hmove =>
    refine ⟨fun hst => ?_, hr.output, hr.low, hr.high, fun v t hv => holdAt_bounded hr p new hv⟩
    have same : r.state = new := not_not.mp (fun hne => hmove ⟨hst, hne⟩)
    subst same
    obtain ⟨ho, hi, -⟩ := hr.rest hst
    exact ⟨ho, hi, holdAt_rest hr p hst⟩

theorem clampInt_mem (x : Int) {lo hi : Int} (h : lo ≤ hi) : lo ≤ clampInt lo hi x ∧ clampInt lo hi x ≤ hi := by
  unfold clampInt
  omega

/-- A sound zone whose output is 0 from now on. -/
theorem Sound.outputZero (hr : r.Sound h) : ({ r with output := 0 } : ZoneRec).Sound h :=
  { rest := fun hst => ⟨rfl, (hr.rest hst).2⟩, output := Nat.zero_le _, low := hr.low, high := hr.high, held := hr.held,
    off := hr.off, waiting := hr.waiting }

/-- A sound zone that can heat takes any output and integral in their ranges. -/
theorem Sound.heats (hr : r.Sound h) (hst : ¬(r.state = .off ∨ r.state = .waitingSupply)) {i : Int} {o : Nat} (ho : o ≤ 1000)
    (hl : -1000 ≤ i) (hh : i ≤ 1000) : ({ r with integral := i, output := o } : ZoneRec).Sound h :=
  { rest := fun hc => absurd hc hst, output := ho, low := hl, high := hh, held := hr.held, off := hr.off, waiting := hr.waiting }

theorem Sound.feedOnly (hr : r.Sound h) (hst : ¬(r.state = .off ∨ r.state = .waitingSupply)) (ref : Nat) :
    (r.feedOnly ref).Sound h := by
  unfold ZoneRec.feedOnly
  split
  · refine hr.heats hst ?_ hr.low hr.high
    split
    · exact Nat.zero_le _
    · have := (clampInt_mem (feedForward (ZoneRecipe.base ‹_›) ref) (lo := 0) (hi := 1000) (by decide)).2
      omega
  · exact hr.outputZero

theorem Sound.regulate (hr : r.Sound h) (hst : ¬(r.state = .off ∨ r.state = .waitingSupply)) (g : Gains) (a : ZoneRecipe)
    (pv : Int) (ref : Nat) : (r.regulate g a pv ref).Sound h := by
  have hi := clampInt_mem (lo := -1000) (hi := 1000) (h := by decide)
  refine hr.heats hst ?_ (hi _).1 (hi _).2
  have ho := fun x => (clampInt_mem x (lo := 0) (hi := 1000) (by decide)).2
  exact Int.toNat_le.mpr (ho _)

end ZoneRec

/-! ### Heat Control -/

theorem mem_allZones (z : Zone) : z ∈ allZones := by
  decide +revert


/-- The parts no zone lies in. -/
def heatless : List Part :=
  [.pending, .inbox, .choice, .tracker, .regs, .map, .book, .cutoff, .slitter, .stacker, .stands, .splice, .scanner, .glue, .gov,
    .cfg, .limits, .link, .notices]

theorem State.zone_of_heat {s t : State} (h : t.heat = s.heat) (z : Zone) : t.zone z = s.zone z := by
  rw [State.zone, h, State.zone]

theorem State.heat_zoneSpan (s : State) (z : Zone) (was now : Bool) : (s.zoneSpan z was now).heat = s.heat :=
  heat_of_erase (erase_zoneSpan s z was now (F := heatless) (by decide)) (by decide)

theorem State.heat_setSlow (s : State) (b : Bool) : ∃ c, (s.setSlow b).heat = { s.heat with slow := c } := by
  unfold State.setSlow
  split
  · exact ⟨s.heat.slow, rfl⟩
  · exact ⟨b, heat_of_erase (erase_mark { s with heat := { s.heat with slow := b } } srcZones (F := heatless) (by decide)) (by decide)⟩

/-- R142: what a zone finds is written into its own record alone; the header and the other zones stay. -/
theorem State.heat_findZone (z : Zone) (s : State) : ∃ c, (State.findZone z s).heat =
    { (s.setZone z ((s.zone z).enter s.zonesCfg.probeHold s.zonesCfg.heatGrace (s.findZoneState z))).heat with slow := c } := by
  have marked (t : State) (b : Bool) : (t.markIf b srcZones).heat = t.heat :=
    heat_of_erase (erase_markIf t b srcZones (F := heatless) (by decide)) (by decide)
  simp only [State.findZone, State.heat_zoneSpan]
  split
  · rw [← marked (s.setZone z _)]
    exact heat_setSlow _ _
  · split
    · rw [← marked (s.setZone z _)]
      exact heat_setSlow _ _
    · exact ⟨s.heat.slow, marked _ _⟩

theorem State.zone_findZone_same (z : Zone) (s : State) :
    (State.findZone z s).zone z = (s.zone z).enter s.zonesCfg.probeHold s.zonesCfg.heatGrace (s.findZoneState z) := by
  obtain ⟨c, hc⟩ := State.heat_findZone z s
  rw [State.zone, hc]
  exact State.zone_setZone _ z _

theorem State.zone_findZone_other {z k : Zone} (s : State) (h : k ≠ z) : (State.findZone z s).zone k = s.zone k := by
  obtain ⟨c, hc⟩ := State.heat_findZone z s
  rw [State.zone, hc]
  exact State.zone_setZone_other _ _ h

theorem State.header_findZone (z : Zone) (s : State) : (State.findZone z s).heat.header = s.heat.header := by
  obtain ⟨c, hc⟩ := State.heat_findZone z s
  rw [hc]
  rfl

/-- R142: a disabled zone finds OFF. -/
theorem State.findZoneState_off {s : State} {z : Zone} (h : (s.zone z).enabled = false) : s.findZoneState z = .off := by
  simp [State.findZoneState, h]

/-- R142: with the header not READY a zone finds OFF or WAITING_SUPPLY. -/
theorem State.findZoneState_waiting {s : State} (z : Zone) (h : s.heat.header ≠ .ready) :
    s.findZoneState z = .off ∨ s.findZoneState z = .waitingSupply := by
  rw [State.findZoneState, if_pos h]
  split <;> simp

/-- A zone that finds its state is sound under the header of the moment. -/
theorem State.sound_findZone (z : Zone) {s : State} (hz : (s.zone z).Tame) : ((State.findZone z s).zone z).Sound s.heat.header := by
  rw [State.zone_findZone_same]
  refine { hz.enter _ _ _ with off := fun he => ?_, waiting := fun hh => ?_ }
  · rw [ZoneRec.enter_state]
    exact State.findZoneState_off (ZoneRec.enter_enabled .. ▸ he)
  · rw [ZoneRec.enter_state]
    exact State.findZoneState_waiting z hh

namespace State.HeatOk

variable {s t : State}

theorem iff_sound : s.HeatOk ↔ ∀ z, (s.zone z).Sound s.heat.header :=
  forall_congr' fun _ =>
    ⟨fun ⟨off, waiting, rest, output, low, high, held⟩ => ⟨⟨rest, output, low, high, held⟩, off, waiting⟩,
      fun ⟨⟨rest, output, low, high, held⟩, off, waiting⟩ => ⟨off, waiting, rest, output, low, high, held⟩⟩

theorem sound (hs : s.HeatOk) (z : Zone) : (s.zone z).Sound s.heat.header := iff_sound.mp hs z

theorem of_heat (h : t.heat = s.heat) (hs : s.HeatOk) : t.HeatOk := by
  simpa only [State.HeatOk, State.zone, h] using hs

theorem of_erase (h : t.erase heatless = s.erase heatless) (hs : s.HeatOk) : t.HeatOk :=
  hs.of_heat (heat_of_erase h (by decide))

theorem each {α : Type} {f : α → State → State} (hf : ∀ x {t : State}, t.HeatOk → (f x t).HeatOk) (l : List α) (hs : s.HeatOk) :
    (s.each l f).HeatOk := by
  unfold State.each
  induction l generalizing s with
  | nil => exact hs
  | cons x l ih => exact ih (hf x hs)

theorem setZone (hs : s.HeatOk) (z : Zone) {r : ZoneRec} (hr : r.Sound s.heat.header) : (s.setZone z r).HeatOk := by
  refine iff_sound.mpr fun k => ?_
  by_cases hk : k = z
  · subst hk
    rwa [State.zone_setZone]
  · rw [State.zone_setZone_other _ _ hk]
    exact hs.sound k

/-- A zone record of which only fields no bound speaks of changed. -/
theorem setZone_congr (hs : s.HeatOk) (z : Zone) {r : ZoneRec} (he : r.enabled = (s.zone z).enabled)
    (hst : r.state = (s.zone z).state) (ho : r.output = (s.zone z).output) (hi : r.integral = (s.zone z).integral)
    (hh : r.hold = (s.zone z).hold) : (s.setZone z r).HeatOk :=
  hs.setZone z { (hs.sound z).congr hst ho hi hh with
    off := by rw [he, hst]; exact (hs.sound z).off
    waiting := by rw [hst]; exact (hs.sound z).waiting }

/-- A zone whose record stays tame is made sound by finding its state. -/
theorem findZone_setZone (hs : s.HeatOk) (z : Zone) {r : ZoneRec} (hr : r.Tame) :
    (State.findZone z (s.setZone z r)).HeatOk := by
  refine iff_sound.mpr fun k => ?_
  rw [State.header_findZone]
  by_cases hk : k = z
  · subst hk
    exact State.sound_findZone k (by rwa [State.zone_setZone])
  · rw [State.zone_findZone_other _ hk, State.zone_setZone_other _ _ hk]
    exact hs.sound k

theorem findZone (hs : s.HeatOk) (z : Zone) : (State.findZone z s).HeatOk := by
  refine iff_sound.mpr fun k => ?_
  rw [State.header_findZone]
  by_cases hk : k = z
  · subst hk
    exact State.sound_findZone k (hs.sound k).toTame
  · rw [State.zone_findZone_other _ hk]
    exact hs.sound k

/-- Every zone that is tame, and found again in turn, is sound in the end, whatever the header became before. -/
theorem findZones (l : List Zone) (h : ∀ z, (s.zone z).Tame) (hout : ∀ z, z ∉ l → (s.zone z).Sound s.heat.header) :
    (s.each l State.findZone).HeatOk := by
  unfold State.each
  induction l generalizing s with
  | nil => exact iff_sound.mpr fun z => hout z (by simp)
  | cons x l ih =>
    have found (z : Zone) (hz : (s.zone z).Sound s.heat.header ∨ z = x) :
        ((State.findZone x s).zone z).Sound s.heat.header := by
      by_cases hx : z = x
      · exact hx ▸ State.sound_findZone x (h x)
      · rw [State.zone_findZone_other _ hx]
        exact hz.resolve_right hx
    refine ih (fun z => ?_) (fun z hz => ?_)
    · by_cases hx : z = x
      · exact (found z (.inr hx)).toTame
      · rw [State.zone_findZone_other _ hx]
        exact h z
    · rw [State.header_findZone]
      by_cases hx : z = x
      · exact found z (.inr hx)
      · exact found z (.inl (hout z (by simp [hx, hz])))

/-! ### Heat Control's own steps -/

theorem setSlow (hs : s.HeatOk) (b : Bool) : (s.setSlow b).HeatOk := by
  obtain ⟨c, hc⟩ := State.heat_setSlow s b
  exact hs.of_heat (s := { s with heat := { s.heat with slow := c } }) hc

theorem takeBelowExpiry (hs : s.HeatOk) (z : Zone) : (s.takeBelowExpiry z).HeatOk := by
  simp only [State.takeBelowExpiry]
  split
  · exact (hs.setZone_congr z (r := { s.zone z with below := .expired }) rfl rfl rfl rfl rfl).setSlow true
  · exact hs

theorem takeHoldExpiry (hs : s.HeatOk) (z : Zone) : (s.takeHoldExpiry z).HeatOk := by
  have hz := hs.sound z
  simp only [State.takeHoldExpiry]
  split
  · next v t hhold =>
    have heats : ¬((s.zone z).state = .off ∨ (s.zone z).state = .waitingSupply) :=
      fun h => by simp [(hz.rest h).2.2] at hhold
    exact hs.setZone z
      { rest := fun h => absurd h heats, output := hz.output, low := hz.low, high := hz.high, held := nofun, off := hz.off,
        waiting := hz.waiting }
  · exact hs

theorem zonePeriod (hs : s.HeatOk) (z : Zone) : (State.zonePeriod z s).HeatOk := by
  have hz := hs.sound z
  simp only [State.zonePeriod]
  split
  · exact hs.setZone z hz.outputZero
  · exact hs.setZone z hz.outputZero
  · next hst => exact hs.setZone z (hz.feedOnly (by simp [hst]) _)
  · next hst =>
    split
    · next v t hhold => exact hs.setZone z (hz.heats (by simp [hst]) (hz.held v t hhold) hz.low hz.high)
    · exact hs.setZone z (hz.feedOnly (by simp [hst]) _)
  · next hoff hwait _ _ =>
    split
    · split
      · exact hs.setZone z hz.outputZero
      · exact hs.setZone z (hz.regulate (fun h => h.elim hoff hwait) _ _ _ _)
    · exact hs.setZone z hz.outputZero

theorem setHeader (hs : s.HeatOk) (h : Header) (settle : Option Nat) : (s.setHeader h settle).HeatOk := by
  simp only [State.setHeader]
  split
  · next same => exact iff_sound.mpr fun z => same ▸ hs.sound z
  · have marked := heat_of_erase (erase_mark { s with heat := { s.heat with header := h, settle := settle } } srcSupply
      (F := heatless) (by decide)) (by decide)
    refine findZones allZones (fun z => ?_) (fun z hz => absurd (mem_allZones z) hz)
    rw [State.zone_of_heat marked]
    exact (hs.sound z).toTame

theorem takePressure (hs : s.HeatOk) (ok : Bool) : (s.takePressure ok).HeatOk := by
  have heard : ({ s with heat := { s.heat with pressureOk := ok } } : State).HeatOk := hs
  simp only [State.takePressure]
  (repeat' split)
  · exact heard.setHeader _ _
  · exact heard
  · exact heard.setHeader _ _
  · exact heard

theorem takeSettleExpiry (hs : s.HeatOk) : s.takeSettleExpiry.HeatOk := by
  simp only [State.takeSettleExpiry]
  split
  · exact hs.setHeader _ _
  · exact hs

theorem takeConversion (hs : s.HeatOk) (raw : Raw) : (s.takeConversion raw).HeatOk := by
  simp only [State.takeConversion]
  split
  · exact hs
  · have formed : (s.formRecord raw).HeatOk := hs.of_erase (by simp [heatless])
    split
    · exact formed.findZone _
    · exact of_erase (by simp [heatless]) formed

theorem takeZoneRecipe (hs : s.HeatOk) (b : Pos) (g : Grade) (z : Zone) : (State.takeZoneRecipe b g z s).HeatOk := by
  have sent : (s.setZone z { s.zone z with pending := (s.zone z).pending ++ [(b, tget g.zones z)] }).HeatOk :=
    hs.setZone_congr z rfl rfl rfl rfl rfl
  simp only [State.takeZoneRecipe]
  split
  · exact of_erase (erase_followZone _ z (by decide)) sent
  · exact sent

theorem takeZoneCommit (hs : s.HeatOk) (z : Zone) : (s.takeZoneCommit z).HeatOk := by
  simp only [State.takeZoneCommit]
  split
  · exact hs
  · exact of_erase (erase_followZone _ z (by decide)) (hs.findZone_setZone z ((hs.sound z).congr rfl rfl rfl rfl))

theorem takeRecipes (hs : s.HeatOk) (b : Pos) (g : Grade) : (s.takeRecipes b g).HeatOk :=
  of_erase (erase_each _ _ _ (fun n t => erase_takeGlueRecipe b g n t (by decide)))
    (hs.each (fun z _ ht => ht.takeZoneRecipe b g z) _)

/-! ### Requests and resets -/

theorem reqSetSupply (hs : s.HeatOk) (code : Nat) : (s.reqSetSupply code).1.HeatOk := by
  simp only [State.reqSetSupply]
  (repeat' split)
  · exact hs
  · exact hs
  · exact hs.setHeader _ _
  · exact hs.setHeader _ _
  · exact hs
  · exact hs.setHeader _ _

theorem reqEnableZone (hs : s.HeatOk) (zone code : Nat) : (s.reqEnableZone zone code).1.HeatOk := by
  simp only [State.reqEnableZone]
  (repeat' split)
  · exact hs
  · exact hs
  · next z _ _ _ _ _ => exact hs.findZone_setZone _ ((hs.sound _).congr rfl rfl rfl rfl)
  · exact hs

/-- Heat Control at reset, with any level of the PRESSURE OK input. -/
theorem reset (pressure : Bool) (h : t.heat = Heat.resetWith pressure) : t.HeatOk := by
  refine iff_sound.mpr fun z => ?_
  have hz : t.zone z = ZoneRec.reset := by simp [State.zone, h, Heat.resetWith]
  rw [hz]
  exact
    { rest := fun _ => ⟨rfl, rfl, rfl⟩, output := Nat.zero_le _, low := by decide, high := by decide, held := nofun,
      off := fun _ => rfl, waiting := fun _ => .inl rfl }

theorem powerOn (s : State) (a b estop pressure : Bool) : (s.powerOn a b estop pressure).HeatOk := by
  simp only [State.powerOn]
  split
  · exact of_erase (erase_takeAssert _ (by decide)) (reset pressure rfl)
  · exact reset pressure rfl

theorem reqResetPart (hs : s.HeatOk) : s.reqResetPart.1.HeatOk := by
  simp only [State.reqResetPart]
  split
  · exact hs
  · exact reset s.heat.pressureOk rfl

/-! ### The step -/

theorem answer (hs : s.HeatOk) (i : Instr) : (s.answer i).1.HeatOk := by
  cases i with
  | setSupply _ x => exact hs.reqSetSupply x
  | enableZone _ z x => exact hs.reqEnableZone z x
  | resetPart => exact hs.reqResetPart
  | _ => exact hs.of_erase (by simp [State.answer, heatless, State.reqReadLine, State.reqReadMap, State.reqListOrders,
      State.reqReadCompleted, State.reqReadStacker, State.reqReadSummary])

theorem field (hs : s.HeatOk) (i : Instr) (hi : encodeRequest i = none) (hu : ∀ k t, i ≠ .unknownRequest k t) :
    (effect i s).HeatOk := by
  cases i with
  | powerOn a b c d => exact powerOn s a b c d
  | zonePeriodExpiry => exact hs.each (fun z _ ht => ht.zonePeriod z) _
  | pressureOkChange ok => exact hs.takePressure ok
  | settleExpiry => exact hs.takeSettleExpiry
  | conversionComplete raw => exact hs.takeConversion raw
  | holdExpiry z => exact hs.takeHoldExpiry z
  | belowTimerExpiry z => exact hs.takeBelowExpiry z
  | unknownRequest k t => exact absurd rfl (hu k t)
  | _ => cases hi <;> exact hs.of_erase (by simp [effect, heatless, State.takeGovernorPeriod, State.takeCycleExpiry,
      State.takeReverse])

theorem event (hs : s.HeatOk) (e : Ev) (he : e.isRequest = false) : (s.handle e).HeatOk := by
  cases e with
  | recipes b g => exact hs.takeRecipes b g
  | crossing p c =>
    cases p with
    | zone z => exact hs.takeZoneCommit z
    | _ => exact hs.of_erase (by simp [State.handle, State.takeCrossing, heatless])
  | request f => cases he
  | _ => exact hs.of_erase (by simp [State.handle, heatless])

end State.HeatOk

theorem keptByStep_HeatOk : KeptByStep heatless State.HeatOk where
  erased := State.HeatOk.of_erase
  waiting := by simp [heatless]
  limits _ hs := hs.of_erase (by simp [heatless])
  notice _ hs := hs.of_erase (by simp [heatless])
  link _ _ _ hs := hs.of_erase (by simp [heatless])
  field _ i hi hu hs := hs.field i hi hu
  event _ e he hs := hs.event e he
  answer _ i hs := hs.answer i

/-- Settles O12: a zone's record moves only by its own steps, each of which leaves it sound; a change of the header leaves every zone tame,
and every zone finds its state again under the new header. -/
theorem stepKeepsHeat : Obligations.StepKeepsHeat :=
  fun _ _ hs hst => keptByStep_HeatOk.step hs hst

end Sys2Proof.Machine

/-! What every step keeps of the Reject Map: whatever adding, opening, closing, pruning and the turn of map order at a step of E keep. -/

namespace Sys2Proof.Machine

/-- The parts that hold neither the map nor E. -/
def mapless : List Part :=
  [.pending, .inbox, .choice, .regs, .book, .cutoff, .slitter, .stacker, .stands, .splice, .scanner, .heat, .glue, .gov, .cfg,
    .limits, .link, .notices]

/-- A property of the map and E that the operations of the map keep (R4 to R14). -/
structure KeptByMap (P : State → Prop) : Prop where
  same : ∀ {s t : State}, t.map = s.map → t.tracker.pos = s.tracker.pos → P s → P t
  addSpan : ∀ (s : State) (kind : SpanKind) (src : Source) (a b : Pos), P s → P (s.addSpanTell kind src a b).1
  openSpan : ∀ (s : State) (kind : SpanKind) (src : Source) (a : Pos), P s → P (s.openSpan kind src a)
  closeSpan : ∀ (s : State) (src : Source) (a : Pos), P s → P (s.closeSpan src a)
  prune : ∀ (s : State) (c : Pos), P s → P (s.prune c)
  turn : ∀ (s : State) (w : Tracker), w.pos = s.tracker.pos + 1 → P s →
    P { s with tracker := w, map := { s.map with spans := mapTurn (s.tracker.pos + 1) s.map.spans } }
  empty : ∀ s : State, s.map.spans = [] → P s

namespace KeptByMap

variable {P : State → Prop} (hP : KeptByMap P) {s t : State}
include hP

theorem of_erase (h : t.erase mapless = s.erase mapless) (hs : P s) : P t :=
  hP.same (map_of_erase h (by decide)) (by rw [tracker_of_erase h (by decide)]) hs

theorem with_tracker (hs : P s) {w : Tracker} (hw : w.pos = s.tracker.pos) : P { s with tracker := w } := hP.same (s := s) rfl hw hs

omit hP in
theorem each {α : Type} {f : α → State → State} (hf : ∀ x {t : State}, P t → P (f x t)) (l : List α) (hs : P s) : P (s.each l f) := by
  unfold State.each
  induction l generalizing s with
  | nil => exact hs
  | cons x l ih => exact ih (hf x hs)

/-! ### The knife and the Slitter Pair -/

theorem takeCut (hs : P s) (c : Pos) : P (s.takeCut c) := by
  simp only [State.takeCut]
  split
  · exact hP.of_erase (erase_reportAhead _ _ _ (by decide) (fun t => by simp [mapless])) hs
  · exact hP.prune _ c (hP.of_erase (erase_reportAhead _ _ _ (by decide) (fun t => by simp [mapless])) hs)

theorem engageFor (hs : P s) (st : Station) : P (s.engageFor st) :=
  hP.closeSpan _ _ _ (hP.of_erase (erase_with_slitter _ _ (by decide)) (hP.of_erase (erase_updStation _ _ _ (by decide)) hs))

theorem lateSwap (hs : P s) (start : Pos) (r : SetRec) (ready : Option Station) : P (s.lateSwap start r ready) := by
  have opened : P (s.disengage.openSpan .misslit .slitter start) :=
    hP.openSpan _ _ _ _ (hP.of_erase (erase_disengage _ (by decide)) hs)
  have awaits (q : Slitter) : P { s.disengage.openSpan .misslit .slitter start with slitter := q } :=
    hP.of_erase (erase_with_slitter _ _ (by decide)) opened
  cases ready with
  | some st => exact hP.engageFor (awaits _) st
  | none => exact hP.of_erase (erase_chooseIncoming _ _ _ (by decide)) (awaits _)

theorem triggerAwaited (hs : P s) (w r : SetRec) : P (s.triggerAwaited w r) := by
  have awaits (q : Slitter) : P { s with slitter := q } := hP.of_erase (erase_with_slitter _ _ (by decide)) hs
  simp only [State.triggerAwaited]
  split
  · exact hP.of_erase (erase_chooseIncoming _ _ _ (by decide)) (awaits _)
  · (repeat' split)
    · exact hP.of_erase (erase_takeId _ _ _ (by decide)) (awaits _)
    · exact hP.engageFor (hP.of_erase (erase_idleStation _ _ (by decide)) (awaits _)) _
    · exact hP.of_erase (erase_with_slitter _ _ (by decide)) (hP.of_erase (erase_idleStation _ _ (by decide)) (awaits _))
    · exact hP.of_erase (erase_load _ _ _ (by decide)) (awaits _)

theorem trigger (hs : P s) (start : Pos) (r : SetRec) : P (s.trigger start r) := by
  simp only [State.trigger]
  split
  · exact hP.of_erase (erase_triggerEstopped _ _ _ (by decide)) hs
  · split
    · exact hP.triggerAwaited hs _ r
    · (repeat' split)
      · exact hP.of_erase (erase_takeId _ _ _ (by decide)) hs
      · exact hs
      · exact hP.of_erase (erase_readySwap _ _ (by decide)) hs
      · exact hP.lateSwap hs start r none

theorem takeSlitTrigger (hs : P s) : P s.takeSlitTrigger := by
  simp only [State.takeSlitTrigger]
  split
  · exact hs
  · refine hP.of_erase (erase_slitMarked _ _ (by decide)) (hP.of_erase (erase_refreshNext _ (by decide)) (hP.trigger ?_ _ _))
    exact hP.of_erase (erase_with_slitter _ _ (by decide)) hs

theorem takeSetDone (hs : P s) (st : Station) : P (s.takeSetDone st) := by
  have done (f : StationRec → StationRec) : P (s.updStation st f) := hP.of_erase (erase_updStation _ _ _ (by decide)) hs
  simp only [State.takeSetDone]
  split
  · refine hP.of_erase (erase_slitMarked _ _ (by decide)) ?_
    split
    · exact hP.of_erase (erase_setStandby _ (by decide)) (hP.engageFor (done _) st)
    · exact done _
  · exact hs

theorem takeDeferred (hs : P s) : P s.takeDeferred := by
  simp only [State.takeDeferred]
  split
  · exact hs
  · have taken (q : Slitter) : P { s with slitter := q } := hP.of_erase (erase_with_slitter _ _ (by decide)) hs
    (repeat' split)
    · exact hP.lateSwap (taken _) _ _ _
    · exact hP.of_erase (erase_readySwap _ _ (by decide)) (taken _)
    · exact hP.lateSwap (taken _) _ _ none

theorem slitModeEntry (hs : P s) (before after : Mode) : P (s.slitModeEntry before after) := by
  simp only [State.slitModeEntry]
  (repeat' split)
  · exact hP.of_erase (by simp [mapless]) hs
  · exact hs
  · refine hP.of_erase (erase_slitMarked _ _ (by decide)) (hP.of_erase (erase_refreshNext _ (by decide)) ?_)
    exact hP.of_erase (erase_loadAwaited _ (by decide)) (hP.takeDeferred hs)
  · exact hP.of_erase (by simp [mapless]) hs

/-! ### The Reel Stands -/

theorem webLoss (hs : P s) (n : Stand) (c : FaultCause) : P (s.webLoss n c) := by
  simp only [State.webLoss]
  split
  · exact hs
  · refine hP.of_erase (erase_post _ _ (by decide)) (hP.of_erase (erase_post _ _ (by decide)) ?_)
    exact hP.openSpan _ _ _ _ (hP.closeSpan _ _ _ (hP.of_erase (erase_updStand _ _ _ (by decide)) hs))

theorem takeWebLost (hs : P s) (n : Stand) : P (s.takeWebLost n) :=
  hP.of_erase (erase_standsMarked _ _ (by decide)) (hP.webLoss hs n _)

theorem takeDecrement (hs : P s) (n : Stand) : P (s.takeDecrement n) := by
  simp only [State.takeDecrement]
  split
  · have tested (f : StandRec → StandRec) (b : Bool) : P (((s.updStand n f).markIf b srcStands).testExpiry n) :=
      hP.of_erase (by simp [mapless]) hs
    have reported {t : State} (b : Bool) (ht : P t) : P (if b then t.post (.minRun n) else t) := by
      split
      · exact hP.of_erase (erase_post _ _ (by decide)) ht
      · exact ht
    refine hP.of_erase (erase_standsMarked _ _ (by decide)) ?_
    split
    · exact hP.webLoss (reported _ (tested _ _)) n _
    · exact reported _ (tested _ _)
  · exact hs

theorem clearStand (hs : P s) (n : Stand) (m : Option Arm) : P (s.clearStand n m) := by
  have named : P (match m with | some x => s.updStand n (fun r => r.makeRunning x) | none => s) := by
    split
    · exact hP.of_erase (erase_updStand _ _ _ (by decide)) hs
    · exact hs
  refine hP.of_erase (erase_standsMarked _ _ (by decide)) (hP.of_erase (erase_freshExpiry _ _ (by decide)) ?_)
  refine hP.of_erase (erase_post _ _ (by decide)) (hP.of_erase (erase_updStand _ _ _ (by decide)) ?_)
  exact hP.closeSpan _ _ _ named

/-! ### The Splice Sequencer -/

theorem updSpl (hs : P s) (n : Stand) (f : SpliceRec → SpliceRec) : P (s.updSpl n f) :=
  hP.of_erase (erase_updSpl _ _ _ (by decide)) hs

theorem updSeq (hs : P s) (n : Stand) (f : Seq → Seq) : P (s.updSeq n f) := hP.of_erase (erase_updSeq _ _ _ (by decide)) hs

theorem openMismatchTell (hs : P s) (n : Stand) (p : Pos) : P (s.openMismatchTell n p).1 := by
  simp only [State.openMismatchTell]
  split
  · exact hs
  · exact hP.of_erase (erase_updSpl _ _ _ (by decide)) (hP.openSpan _ _ _ _ hs)

theorem openMismatch (hs : P s) (n : Stand) (p : Pos) : P (s.openMismatch n p) := hP.openMismatchTell hs n p

theorem closeMismatch (hs : P s) (n : Stand) (p : Pos) : P (s.closeMismatch n p) := by
  simp only [State.closeMismatch]
  split
  · exact hP.of_erase (erase_updSpl _ _ _ (by decide)) (hP.closeSpan _ _ _ hs)
  · exact hs

theorem endSeq (hs : P s) (n : Stand) (q : Seq) (o : SpliceOutcome) (laid : Option (Pos × Pos)) (w : Bool) :
    P (s.endSeq n q o laid w) := hP.of_erase (erase_endSeq _ _ _ _ _ _ (by decide)) hs

theorem keepOwed (hs : P s) (n : Stand) (q : Seq) : P (s.keepOwed n q).1 := by
  simp only [State.keepOwed]
  split
  · exact hP.of_erase (erase_updSpl _ _ _ (by decide)) hs
  · exact hP.of_erase (erase_updSpl _ _ _ (by decide)) (hP.openMismatchTell hs n _)
  · exact hs

theorem endOwed (hs : P s) (n : Stand) (q : Seq) (o : SpliceOutcome) (w : Bool) : P (s.endOwed n q o w) :=
  hP.endSeq (hP.keepOwed hs n q) n q o _ w

theorem triggerSeq (hs : P s) (n : Stand) : P (s.triggerSeq n) := by
  simp only [State.triggerSeq]
  (repeat' split)
  · exact hs
  · exact hP.of_erase (by simp [mapless]) hs
  · exact hP.endOwed (hP.of_erase (by simp [mapless]) hs) n _ _ _

theorem takeSpliceTrigger (hs : P s) (n : Stand) : P (s.takeSpliceTrigger n) := by
  simp only [State.takeSpliceTrigger]
  (repeat' split)
  · exact hP.triggerSeq hs n
  · exact hs
  · exact hs

theorem takeMinRun (hs : P s) (n : Stand) : P (s.takeMinRun n) := by
  simp only [State.takeMinRun]
  (repeat' split)
  · exact hP.triggerSeq hs n
  · exact hs
  · exact hs

theorem layJoint (hs : P s) (n : Stand) (q : Seq) (joint : Pos) : P (s.layJoint n q joint).1 := by
  have spliced (a b : Pos) : P (s.addSpan .splice (srcOf n) a b) := hP.addSpan _ _ _ _ _ hs
  simp only [State.layJoint]
  split
  · exact hP.closeMismatch (spliced _ _) n joint
  · exact hP.closeMismatch (hP.addSpan _ _ _ _ _ (spliced _ _)) n joint

theorem takeTransferExpiry (hs : P s) (n : Stand) : P (s.takeTransferExpiry n) := by
  simp only [State.takeTransferExpiry]
  (repeat' split)
  · exact hs
  · refine hP.endSeq (hP.of_erase (erase_updSpl _ _ _ (by decide)) (hP.layJoint ?_ n _ _)) n _ _ _ _
    exact hP.of_erase (erase_rollChange _ _ _ (by decide)) hs
  · exact hs

theorem takePasteFail (hs : P s) (n : Stand) : P (s.takePasteFail n) := by
  simp only [State.takePasteFail]
  (repeat' split)
  · exact hs
  · exact hP.endOwed (hP.of_erase (by simp [mapless]) hs) n _ _ _
  · exact hP.endOwed (hP.of_erase (by simp [mapless]) hs) n _ _ _
  · exact hs

/-- R129, R132: the open MISMATCH span is closed and a SPLICE span opened, and the sequence ends keeping its plan. -/
theorem endWithSplice (hs : P s) (n : Stand) (a b : Pos) (q : Seq) (o : SpliceOutcome) :
    P ((((s.closeMismatch n a).openSpan .splice (srcOf n) b).keepPlan n q).endSeq n q o none true) :=
  hP.endSeq (hP.of_erase (erase_keepPlan _ _ _ (by decide)) (hP.openSpan _ _ _ _ (hP.closeMismatch hs n a))) n q o _ _

theorem takeCutFail (hs : P s) (n : Stand) : P (s.takeCutFail n) := by
  simp only [State.takeCutFail]
  (repeat' split)
  · exact hs
  · exact hP.endWithSplice (hP.of_erase (by simp [mapless]) hs) n _ _ _ _
  · exact hs

theorem takeWebLoss (hs : P s) (n : Stand) : P (s.takeWebLoss n) := by
  simp only [State.takeWebLoss]
  (repeat' split)
  · exact hP.of_erase (by simp [mapless]) hs
  · exact hP.of_erase (by simp [mapless]) hs
  · refine hP.endSeq (hP.of_erase (erase_keepPlan _ _ _ (by decide)) (hP.addSpan _ _ _ _ _ ?_)) n _ _ _ _
    exact hP.of_erase (by simp [mapless]) hs

theorem settleMismatch (hs : P s) (n : Stand) (b : Pos) : P (s.settleMismatch n b) := hP.closeMismatch hs n _

theorem armPlan (hs : P s) (n : Stand) (p : Plan) : P (s.armPlan n p) := by
  have owed : P (match p.owedFrom with | some w => s.openMismatch n w | none => s) := by
    split
    · exact hP.openMismatch hs n _
    · exact hs
  simp only [State.armPlan]
  split
  · exact hP.of_erase (erase_postFirst _ _ (by decide)) (hP.settleMismatch hs n _)
  · split
    · exact hP.endOwed (hP.updSpl owed n _) n _ _ _
    · split
      · exact hP.triggerSeq (hP.updSeq (hP.updSpl owed n _) n _) n
      · refine hP.of_erase (erase_register _ _ _ (by decide)) (hP.of_erase (erase_register _ _ _ (by decide)) ?_)
        exact hP.updSeq (hP.updSpl owed n _) n _

theorem armNow (hs : P s) (n : Stand) (kind : SpliceKind) (plan : Option Plan) (needs : Nat × Option Nat) :
    P (s.armNow n kind plan needs) := hP.triggerSeq (hP.of_erase (erase_updSpl _ _ _ (by decide)) hs) n

theorem takeHandover (hs : P s) (n : Stand) (b : Pos) (kind id : Nat) : P (s.takeHandover n b kind id) := by
  simp only [State.takeHandover]
  split
  · exact hP.armPlan (hP.of_erase (erase_giveUpWait _ _ _ (by decide)) hs) n _
  · exact hP.of_erase (erase_updSpl _ _ _ (by decide)) hs

theorem testWait (hs : P s) (n : Stand) : P (s.testWait n) := by
  have given (f : SpliceRec → SpliceRec) : P (s.updSpl n f) := hP.of_erase (erase_updSpl _ _ _ (by decide)) hs
  simp only [State.testWait]
  (repeat' split)
  · exact hs
  · exact hP.armNow (given _) n _ _ _
  · exact hs
  · exact hP.armNow (given _) n _ _ _
  · exact hs

theorem settleWait (hs : P s) (n : Stand) : P (s.settleWait n) := by
  simp only [State.settleWait]
  (repeat' split)
  · exact hP.of_erase (erase_updSpl _ _ _ (by decide)) (hP.settleMismatch hs n _)
  · exact hs
  · exact hs

theorem takeRollReady (hs : P s) (n : Stand) : P (s.takeRollReady n) := by
  simp only [State.takeRollReady]
  split
  · exact hP.testWait (hP.settleWait hs n) n
  · exact hP.settleWait hs n

theorem takeOwedWork (hs : P s) (n : Stand) (w : Bool) : P (s.takeOwedWork n w) := by
  have given (f : SpliceRec → SpliceRec) : P (s.updSpl n f) := hP.of_erase (erase_updSpl _ _ _ (by decide)) hs
  simp only [State.takeOwedWork]
  (repeat' split)
  · exact hs
  · exact hP.armPlan (hP.of_erase (erase_giveUpWait _ _ _ (by decide)) (given _)) n _
  · exact hP.takeRollReady hs n
  · exact hP.armNow (given _) n _ _ _
  · exact hs

theorem takeExpiry (hs : P s) (n : Stand) : P (s.takeExpiry n) := by
  simp only [State.takeExpiry]
  (repeat' split)
  · exact hP.armNow hs n _ _ _
  · exact hs
  · exact hP.of_erase (erase_updSpl _ _ _ (by decide)) hs

theorem takeCleared (hs : P s) (n : Stand) : P (s.takeCleared n) := by
  have cleared (f : SpliceRec → SpliceRec) : P (s.updSpl n f) := hP.of_erase (erase_updSpl _ _ _ (by decide)) hs
  simp only [State.takeCleared]
  refine hP.of_erase (erase_postFirst _ _ (by decide)) ?_
  (repeat' split)
  · exact hP.settleWait (cleared _) n
  · exact hP.openMismatch (cleared _) n _
  · exact cleared _

theorem stopSplice (hs : P s) (n : Stand) : P (s.stopSplice n) := by
  simp only [State.stopSplice]
  (repeat' split)
  · exact hs
  · exact hP.endSeq (hP.of_erase (erase_returnArmed _ _ _ (by decide)) hs) n _ _ _ _
  · exact hP.endWithSplice (hP.of_erase (by simp [mapless]) hs) n _ _ _ _

theorem spliceModeEntry (hs : P s) (before after : Mode) : P (s.spliceModeEntry before after) := by
  simp only [State.spliceModeEntry]
  split
  · exact each (P := P) (fun n _ ht => hP.stopSplice ht n) _ hs
  · (repeat' split) <;> exact hP.of_erase (by simp [mapless]) hs

/-! ### Heat Control -/

theorem zoneSpan (hs : P s) (z : Zone) (was now : Bool) : P (s.zoneSpan z was now) := by
  have marked : P (s.mark srcZones) := hP.of_erase (erase_mark _ _ (by decide)) hs
  simp only [State.zoneSpan]
  (repeat' split)
  · exact hs
  · exact hP.closeSpan _ _ _ marked
  · exact hP.openSpan _ _ _ _ marked

theorem findZone (hs : P s) (z : Zone) : P (State.findZone z s) := by
  have found (r : ZoneRec) (b : Bool) : P ((s.setZone z r).markIf b srcZones) := hP.of_erase (by simp [mapless]) hs
  simp only [State.findZone]
  refine hP.zoneSpan ?_ z _ _
  (repeat' split)
  · exact hP.of_erase (erase_setSlow _ _ (by decide)) (found _ _)
  · exact hP.of_erase (erase_setSlow _ _ (by decide)) (found _ _)
  · exact found _ _

theorem takeZoneCommit (hs : P s) (z : Zone) : P (s.takeZoneCommit z) := by
  simp only [State.takeZoneCommit]
  split
  · exact hs
  · exact hP.of_erase (erase_followZone _ _ (by decide)) (hP.findZone (hP.of_erase (erase_setZone _ _ _ (by decide)) hs) z)

theorem setHeader (hs : P s) (h : Header) (settle : Option Nat) : P (s.setHeader h settle) := by
  simp only [State.setHeader]
  split
  · exact hP.of_erase (erase_with_heat _ _ (by decide)) hs
  · exact each (P := P) (fun z _ ht => hP.findZone ht z) _ (hP.of_erase (by simp [mapless]) hs)

theorem takePressure (hs : P s) (ok : Bool) : P (s.takePressure ok) := by
  have heard : P { s with heat := { s.heat with pressureOk := ok } } := hP.of_erase (erase_with_heat _ _ (by decide)) hs
  simp only [State.takePressure]
  (repeat' split)
  · exact hP.setHeader heard _ _
  · exact heard
  · exact hP.setHeader heard _ _
  · exact heard

theorem takeSettleExpiry (hs : P s) : P s.takeSettleExpiry := by
  simp only [State.takeSettleExpiry]
  split
  · exact hP.setHeader hs _ _
  · exact hs

/-! ### The Glue Units -/

theorem findUnitAt (hs : P s) (e : Pos) (u : GlueUnit) : P (State.findUnitAt e u s) := by
  have found (r : GlueRec) : P ((s.setUnit u r).mark srcGlue) := hP.of_erase (by simp [mapless]) hs
  simp only [State.findUnitAt]
  (repeat' split)
  · exact hs
  · exact hP.closeSpan _ _ _ (found _)
  · exact hP.openSpan _ _ _ _ (found _)

theorem findUnit (hs : P s) (u : GlueUnit) : P (State.findUnit u s) := hP.findUnitAt hs _ u

theorem updUnit (hs : P s) (u : GlueUnit) (f : GlueRec → GlueRec) : P (s.updUnit u f) := by
  simp only [State.updUnit]
  split
  · exact hP.of_erase (erase_setUnit _ _ _ (by decide)) hs
  · exact hP.findUnit (hP.of_erase (by simp [mapless]) hs) u

theorem setMotion (hs : P s) (b : Bool) (e : Pos) : P (s.setMotion b e) := by
  simp only [State.setMotion]
  split
  · exact hs
  · exact each (P := P) (fun u _ ht => hP.findUnitAt ht e u) _ (hP.of_erase (erase_with_glue _ _ (by decide)) hs)

theorem takeMotion (hs : P s) : P s.takeMotion := hP.setMotion hs _ _

theorem computeTarget (hs : P s) (u : GlueUnit) : P (State.computeTarget u s) := by
  simp only [State.computeTarget]
  split
  · exact hs
  · split
    · exact hs
    · exact hP.updUnit hs u _

theorem liftTest (hs : P s) (u : GlueUnit) : P (State.liftTest u s) := by
  simp only [State.liftTest]
  split
  · exact hP.updUnit hs u _
  · exact hs

theorem reapplyTest (hs : P s) (u : GlueUnit) : P (State.reapplyTest u s) := by
  simp only [State.reapplyTest]
  split
  · exact hP.updUnit hs u _
  · exact hs

theorem glueTests (hs : P s) : P s.glueTests := each (P := P) (fun u _ ht => hP.reapplyTest (hP.liftTest ht u) u) _ hs

theorem gluePublish (hs : P s) : P s.gluePublish := by
  simp only [State.gluePublish]
  refine hP.glueTests ?_
  split
  · exact hP.setMotion hs _ _
  · exact hs

theorem takeArrived (hs : P s) (u : GlueUnit) : P (s.takeArrived u) := by
  simp only [State.takeArrived]
  split
  · exact hP.reapplyTest (hP.updUnit hs u _) u
  · exact hs

theorem takeMoveExpiry (hs : P s) (u : GlueUnit) : P (s.takeMoveExpiry u) := by
  simp only [State.takeMoveExpiry]
  split
  · exact hP.updUnit hs u _
  · exact hs

theorem takeGlueCommit (hs : P s) (u : GlueUnit) : P (s.takeGlueCommit u) := by
  simp only [State.takeGlueCommit]
  split
  · exact hs
  · refine hP.of_erase (erase_followUnit _ _ (by decide)) (hP.findUnit (hP.computeTarget ?_ u) u)
    exact hP.of_erase (erase_setUnit _ _ _ (by decide)) hs

theorem glueModeEntry (hs : P s) (after : Mode) : P (s.glueModeEntry after) := by
  simp only [State.glueModeEntry]
  (repeat' split)
  · exact each (P := P) (fun u _ ht => hP.updUnit ht u _) _ hs
  · exact hP.glueTests hs
  · exact each (P := P) (fun u _ ht => hP.liftTest ht u) _ hs

theorem takeConversion (hs : P s) (raw : Raw) : P (s.takeConversion raw) := by
  have formed : P (s.formRecord raw) := hP.of_erase (erase_formRecord _ _ (by decide)) hs
  simp only [State.takeConversion]
  (repeat' split)
  · exact hs
  · exact hP.findZone formed _
  · exact hP.findUnit formed _

/-! ### The Governor and the tracker -/

theorem takeModeEntry (hs : P s) (before after : Mode) : P (s.takeModeEntry before after) := by
  unfold State.takeModeEntry
  refine hP.glueModeEntry (hP.spliceModeEntry (hP.of_erase (erase_standsModeEntry _ (by decide)) ?_) before after) after
  refine hP.of_erase (erase_stackModeEntry _ _ _ (by decide)) (hP.slitModeEntry ?_ before after)
  exact hP.of_erase (erase_knifeModeEntry _ _ _ (by decide)) hs

theorem takeAssert (hs : P s) : P s.takeAssert := by
  have entered {t : State} (ht : P t) : P t.enterEstopped := by
    refine hP.of_erase (erase_raise _ _ _ (by decide)) (hP.addSpan _ _ _ _ _ ?_)
    exact hP.of_erase (by simp [State.enterMode, mapless]) ht
  simp only [State.takeAssert]
  split
  · exact hP.of_erase (by simp [mapless]) hs
  · exact hP.of_erase (by simp [mapless]) hs
  · exact entered (hP.of_erase (erase_with_gov _ _ (by decide)) hs)

theorem leaveUnconfigured (hs : P s) : P s.leaveUnconfigured := by
  have entered : P (s.enterMode .stopped) := hP.of_erase (by simp [State.enterMode, mapless]) hs
  simp only [State.leaveUnconfigured]
  (repeat' split)
  · exact hP.takeAssert entered
  · exact entered
  · exact hs

theorem takePublish (hs : P s) : P s.takePublish :=
  hP.gluePublish (hP.of_erase (erase_pasteTests _ (by decide))
    (hP.with_tracker hs rfl))

theorem takeForward (hs : P s) : P s.takeForward := by
  simp only [State.takeForward]
  split
  · exact hP.with_tracker hs rfl
  · refine hP.of_erase (erase_postTogether _ _ (by decide)) (hP.of_erase (erase_with_regs _ _ (by decide)) ?_)
    exact hP.of_erase (erase_each _ _ _ (fun n t => erase_drawStand n t (by decide))) (hP.turn s _ rfl hs)

/-! ### Requests and resets -/

theorem reqAddReject (hs : P s) (a b : Pos) : P (s.reqAddReject a b).1 := by
  simp only [State.reqAddReject]
  split_ifs
  · exact hs
  · exact hs
  · exact hs
  · exact hP.addSpan _ _ _ _ _ hs

theorem reqClearStand (hs : P s) (n : Nat) (m : Option Nat) : P (s.reqClearStand n m).1 := by
  simp only [State.reqClearStand]
  split
  · exact hs
  · exact hs
  · split_ifs
    · exact hs
    · exact hs
    · exact hs
    · exact hs
    · exact hP.clearStand hs _ _

theorem reqSpliceNow (hs : P s) (n : Nat) : P (s.reqSpliceNow n).1 := by
  simp only [State.reqSpliceNow]
  split
  · exact hs
  · split_ifs
    · exact hs
    · exact hs
    · exact hs
    · exact hP.armNow (hP.updSpl hs _ _) _ _ _ _
    · exact hP.armNow hs _ _ _ _

theorem reqCancelSplice (hs : P s) (n : Nat) : P (s.reqCancelSplice n).1 := by
  simp only [State.reqCancelSplice]
  split
  · exact hs
  · next k _ =>
    (repeat' split)
    · exact hs
    · exact hP.endOwed hs _ _ _ _
    · exact hP.updSeq hs k _
    · dsimp only
      exact hP.updSpl hs k _
    · exact hs
    · dsimp only
      exact hP.updSpl hs k _
    · exact hs
    · exact hs

theorem reqSetSupply (hs : P s) (code : Nat) : P (s.reqSetSupply code).1 := by
  simp only [State.reqSetSupply]
  (repeat' split)
  · exact hs
  · exact hs
  · exact hP.setHeader hs _ _
  · exact hP.setHeader hs _ _
  · exact hs
  · exact hP.setHeader hs _ _

theorem reqEnableZone (hs : P s) (zone code : Nat) : P (s.reqEnableZone zone code).1 := by
  simp only [State.reqEnableZone]
  (repeat' split)
  · exact hs
  · exact hs
  · exact hP.findZone (hP.of_erase (erase_setZone _ _ _ (by decide)) hs) _
  · exact hs

theorem reqClearGlue (hs : P s) (code : Nat) : P (s.reqClearGlue code).1 := by
  simp only [State.reqClearGlue]
  split
  · exact hs
  · next u _ =>
    split
    · exact hs
    · dsimp only
      exact hP.updUnit hs u _

theorem reqConfigure (hs : P s) (sec : Section) : P (s.reqConfigure sec).1 := by
  simp only [State.reqConfigure]
  split
  · exact hs
  · exact hP.leaveUnconfigured (hP.of_erase (by simp [mapless]) hs)

theorem reqResetPart (hs : P s) : P s.reqResetPart.1 := by
  simp only [State.reqResetPart]
  split
  · exact hs
  · exact hP.empty _ rfl

theorem powerOn (s : State) (a b estop pressure : Bool) : P (s.powerOn a b estop pressure) := by
  simp only [State.powerOn]
  split
  · exact hP.takeAssert (hP.empty _ rfl)
  · exact hP.empty _ rfl

/-! ### The step -/

theorem answer (hs : P s) (i : Instr) : P (s.answer i).1 := by
  cases i with
  | configure _ sec => exact hP.reqConfigure hs sec
  | resetPart => exact hP.reqResetPart hs
  | addReject _ a b => exact hP.reqAddReject hs a b
  | clearStand _ n m => exact hP.reqClearStand hs n m
  | spliceNow _ n => exact hP.reqSpliceNow hs n
  | cancelSplice _ n => exact hP.reqCancelSplice hs n
  | setSupply _ x => exact hP.reqSetSupply hs x
  | enableZone _ z x => exact hP.reqEnableZone hs z x
  | clearGlue _ u => exact hP.reqClearGlue hs u
  | _ => exact hP.of_erase (by simp [State.answer, mapless, State.reqReadLine, State.reqReadMap, State.reqListOrders,
      State.reqReadCompleted, State.reqReadStacker, State.reqReadSummary]) hs

theorem field (hs : P s) (i : Instr) (hi : encodeRequest i = none) (hu : ∀ k t, i ≠ .unknownRequest k t) : P (effect i s) := by
  cases i with
  | powerOn a b c d => exact hP.powerOn s a b c d
  | forwardCount => exact hP.takeForward hs
  | reverseCount => exact hP.with_tracker hs rfl
  | setDone st => exact hP.takeSetDone hs st
  | pasteFail n => exact hP.takePasteFail hs n
  | cutFail n => exact hP.takeCutFail hs n
  | transferExpiry n => exact hP.takeTransferExpiry hs n
  | webLost n => exact hP.takeWebLost hs n
  | arrived u => exact hP.takeArrived hs u
  | moveTimerExpiry u => exact hP.takeMoveExpiry hs u
  | pressureOkChange ok => exact hP.takePressure hs ok
  | settleExpiry => exact hP.takeSettleExpiry hs
  | conversionComplete raw => exact hP.takeConversion hs raw
  | estopAssert => exact hP.takeAssert hs
  | unknownRequest k t => exact absurd rfl (hu k t)
  | _ => cases hi <;> exact hP.of_erase (by simp [effect, mapless, State.takeGovernorPeriod, State.takeCycleExpiry]) hs

theorem crossing (hs : P s) (p : Purpose) (c : Pos) : P (s.takeCrossing p c) := by
  cases p with
  | cut => exact hP.takeCut hs c
  | slitTrigger => exact hP.takeSlitTrigger hs
  | spliceTrigger n => exact hP.takeSpliceTrigger hs n
  | zone z => exact hP.takeZoneCommit hs z
  | glue u => exact hP.takeGlueCommit hs u
  | _ => exact hP.of_erase (by simp [State.takeCrossing, mapless]) hs

theorem event (hs : P s) (e : Ev) (he : e.isRequest = false) : P (s.handle e) := by
  cases e with
  | crossing p c => exact hP.crossing hs p c
  | decrement n => exact hP.takeDecrement hs n
  | motionSet => exact hP.takeMotion hs
  | handover n b kind id => exact hP.takeHandover hs n b kind id
  | modeEntry before after => exact hP.takeModeEntry hs before after
  | webLoss n => exact hP.takeWebLoss hs n
  | cleared n => exact hP.takeCleared hs n
  | expiry n => exact hP.takeExpiry hs n
  | rollReady n => exact hP.takeRollReady hs n
  | minRun n => exact hP.takeMinRun hs n
  | owedWork n w => exact hP.takeOwedWork hs n w
  | publish => exact hP.takePublish hs
  | glueTargets => exact each (P := P) (fun u _ ht => hP.computeTarget ht u) _ hs
  | governorAccepted => exact hP.glueTests (hP.of_erase (erase_pasteTests _ (by decide)) hs)
  | request f => cases he
  | _ => exact hP.of_erase (by simp [State.handle, mapless]) hs

/-- What the operations of the map keep, every step keeps. -/
theorem keptByStep : KeptByStep mapless P where
  erased := hP.of_erase
  waiting := by simp [mapless]
  limits _ hs := hP.of_erase (by simp [mapless]) hs
  notice _ hs := hP.of_erase (by simp [mapless]) hs
  link _ _ _ hs := hP.of_erase (by simp [mapless]) hs
  field _ i hi hu hs := hP.field hs i hi hu
  event _ e he hs := hP.event hs e he
  answer _ i hs := hP.answer hs i

end KeptByMap

end Sys2Proof.Machine

/-! What the operations of the Reject Map do to its list of spans (R4 to R14): each drops spans, or puts one span in its place among some of
those that were there. -/

namespace Sys2Proof.Machine

/-! ### Putting, merging and folding -/

theorem mapInsert_perm (e : Pos) (x : Span) (l : List Span) : (mapInsert e x l).Perm (x :: l) := by
  induction l with
  | nil => exact .refl _
  | cons y l ih =>
    unfold mapInsert
    split
    · exact .refl _
    · exact (ih.cons y).trans (.swap x y l)

theorem length_mapInsert (e : Pos) (x : Span) (l : List Span) : (mapInsert e x l).length = l.length + 1 :=
  (mapInsert_perm e x l).length_eq

theorem mergeSpan_sublist (e : Pos) (k : Nat) (x : Span) (l : List Span) : (mergeSpan e k x l).2.Sublist l := by
  induction k generalizing x l with
  | zero => exact .refl _
  | succ k ih =>
    unfold mergeSpan
    split
    · exact (ih _ _).trans List.filter_sublist
    · exact .refl _

/-- R7: a merge takes at least one span out. -/
theorem length_mergeSpan_lt {e : Pos} {k : Nat} {x : Span} {l : List Span} (hk : 0 < k) (h : l.any (x.joins e) = true) :
    (mergeSpan e k x l).2.length < l.length := by
  obtain ⟨k, rfl⟩ := Nat.exists_eq_succ_of_ne_zero hk.ne'
  obtain ⟨y, hy, hj⟩ := List.any_eq_true.mp h
  rw [mergeSpan, if_pos h]
  refine (mergeSpan_sublist _ _ _ _).length_le.trans_lt ?_
  exact List.length_filter_lt_length_iff_exists.mpr ⟨y, hy, by simp [hj]⟩

/-- A closed span that is open for no source. -/
def Span.Shut (x : Span) : Prop := x.openFor = none ∧ x.stop.isSome = true

theorem Span.Shut.foldl_join {x : Span} (hx : x.Shut) (e : Pos) (l : List Span) : (l.foldl (Span.join e) x).Shut := by
  induction l generalizing x with
  | nil => exact hx
  | cons y l ih => exact ih ⟨rfl, rfl⟩

theorem Span.Shut.mergeSpan {x : Span} (hx : x.Shut) (e : Pos) (k : Nat) (l : List Span) : (mergeSpan e k x l).1.Shut := by
  induction k generalizing x l with
  | zero => exact hx
  | succ k ih =>
    unfold Machine.mergeSpan
    split
    · exact ih (hx.foldl_join e _) _
    · exact hx

theorem foldTarget_mem {e start : Pos} {l : List Span} {x : Span} (h : foldTarget e start l = some x) : x ∈ l := by
  unfold foldTarget at h
  split at h
  · next hl =>
    cases h
    exact (List.mem_filter.mp (List.mem_of_getLast? hl)).1
  · exact List.mem_of_head? h

theorem foldClosed_openFor (e : Pos) (t x : Span) : (foldClosed e t x).openFor = t.openFor := by
  unfold foldClosed
  split <;> rfl

theorem foldClosed_isSome (e : Pos) (t x : Span) : (foldClosed e t x).stop.isSome = t.stop.isSome := by
  unfold foldClosed
  split
  · next h => rw [h]; rfl
  · rfl

theorem openSpanOf_mem {s : State} {src : Source} {x : Span} (h : s.openSpanOf src = some x) :
    x ∈ s.map.spans ∧ x.openFor = some src :=
  ⟨List.mem_of_find?_eq_some h, by simpa using List.find?_some h⟩

/-! ### A change of the map -/

/-- R4: an open span names the source it is open for, and no other span does. -/
def Span.Named (x : Span) : Prop := x.openFor.isSome = x.stop.isNone

theorem Span.Shut.named {x : Span} (hx : x.Shut) : x.Named := by
  simp [Span.Named, hx.1, Option.isNone_eq_false_iff.mpr hx.2]

/-- How many spans of a list are open for a source. -/
def openCount (src : Source) (l : List Span) : Nat := l.countP (fun x => decide (x.openFor = some src))

theorem openCount_perm {src : Source} {l l' : List Span} (h : l.Perm l') : openCount src l = openCount src l' := h.countP_eq _

theorem openCount_sublist {src : Source} {l l' : List Span} (h : l'.Sublist l) : openCount src l' ≤ openCount src l := h.countP_le

theorem openCount_cons_none {src : Source} {x : Span} (l : List Span) (h : x.openFor ≠ some src) :
    openCount src (x :: l) = openCount src l := List.countP_cons_of_neg (by simpa using h)

/-- One operation of the map on the list of its spans: spans are dropped, or one is put in its place among some that were there, without
taking more room than there is and without giving a source a second open span. -/
inductive MapChange (e : Pos) (l : List Span) : List Span → Prop
  | drop {l' : List Span} (sub : l'.Sublist l) : MapChange e l l'
  | put {rest : List Span} (x : Span) (sub : rest.Sublist l) (room : rest.length + 1 ≤ max Config.mapRoom l.length)
      (open_ : (∀ y ∈ l, y.Named) → x.Named ∧ ∀ src, openCount src (x :: rest) ≤ max 1 (openCount src l)) :
      MapChange e l (mapInsert e x rest)

namespace MapChange

variable {e : Pos} {l rest : List Span}

theorem refl (e : Pos) (l : List Span) : MapChange e l l := .drop (.refl l)

/-- A span is put in that is open for no source. -/
theorem put_shut (x : Span) (sub : rest.Sublist l) (room : rest.length + 1 ≤ max Config.mapRoom l.length)
    (hx : (∀ y ∈ l, y.Named) → x.Shut) : MapChange e l (mapInsert e x rest) :=
  .put x sub room fun hl => ⟨(hx hl).named, fun src => by
    rw [openCount_cons_none rest (by simp [(hx hl).1])]
    exact (openCount_sublist sub).trans (le_max_right _ _)⟩

/-- A closed span is merged into what is left of the map. -/
theorem merge (x : Span) (sub : rest.Sublist l)
    (room : rest.length + 1 ≤ max Config.mapRoom l.length ∨ rest.length ≤ l.length ∧ rest.any (x.joins e) = true)
    (hx : (∀ y ∈ l, y.Named) → x.Shut) : MapChange e l (mapMerge e x rest).2 := by
  refine put_shut _ ((mergeSpan_sublist e _ x rest).trans sub) ?_ (fun hl => (hx hl).mergeSpan e _ rest)
  rcases room with h | ⟨h, hj⟩
  · have := (mergeSpan_sublist e (rest.length + 1) x rest).length_le
    omega
  · have := length_mergeSpan_lt (k := rest.length + 1) (Nat.succ_pos _) hj
    omega

theorem without_sublist (t : Span) (l : List Span) : (l.filter (fun y => !decide (y = t))).Sublist l := List.filter_sublist

theorem length_without {t : Span} (ht : t ∈ l) : (l.filter (fun y => !decide (y = t))).length + 1 ≤ l.length :=
  List.length_filter_lt_length_iff_exists.mpr ⟨t, ht, by simp⟩

/-- A span taken out of the map leaves as many open spans less its own. -/
theorem openCount_without {t : Span} (ht : t ∈ l) (src : Source) :
    openCount src (t :: l.filter (fun y => !decide (y = t))) ≤ openCount src l := by
  have hsub : (t :: l.filter (fun y => !decide (y = t))).Subperm l := by
    rw [List.subperm_ext_iff]
    intro y hy
    by_cases h : y = t
    · subst h
      have : (l.filter (fun z => !decide (z = y))).count y = 0 := List.count_eq_zero.mpr (by simp)
      rw [List.count_cons_self, this]
      exact List.one_le_count_iff.mpr ht
    · rw [List.count_cons_of_ne (Ne.symm h)]
      exact List.filter_sublist.count_le y
  exact hsub.countP_le _

/-- A span takes the place of one that is open for the same source, or for none as well. -/
theorem replace {t x : Span} (ht : t ∈ l) (hopen : x.openFor = t.openFor) (hstop : x.stop.isNone = t.stop.isNone) :
    MapChange e l (mapInsert e x (l.filter (fun y => !decide (y = t)))) := by
  refine .put x (without_sublist t l) ((length_without ht).trans (le_max_right _ _)) fun hl => ⟨?_, fun src => ?_⟩
  · rw [Span.Named, hopen, hstop]
    exact hl t ht
  · have := openCount_without ht src
    rw [openCount, List.countP_cons] at this
    rw [openCount, List.countP_cons, hopen]
    exact this.trans (le_max_right _ _)

/-- A span opens for a source that has none open. -/
theorem opens {src : Source} (x : Span) (sub : rest.Sublist l) (room : rest.length + 1 ≤ max Config.mapRoom l.length)
    (hfree : ∀ y ∈ l, y.openFor ≠ some src) (hx : x.openFor = some src) (hstop : x.stop = none) :
    MapChange e l (mapInsert e x rest) := by
  refine .put x sub room fun _ => ⟨by simp [Span.Named, hx, hstop], fun other => ?_⟩
  by_cases h : other = src
  · subst h
    have none_left : openCount other rest = 0 := List.countP_eq_zero.mpr fun y hy => by simpa using hfree y (sub.mem hy)
    rw [openCount, List.countP_cons, ← openCount, none_left]
    split <;> omega
  · rw [openCount_cons_none rest (by simpa [hx] using Ne.symm h)]
    exact (openCount_sublist sub).trans (le_max_right _ _)

end MapChange

/-! ### The operations of the map -/

@[simp] theorem State.spans_reportMapChange (s : State) : s.reportMapChange.map.spans = s.map.spans := by
  obtain ⟨l, r, c, -, h, -⟩ := s.reportMapChange_eq
  rw [h]

@[simp] theorem State.spans_setSpans (s : State) (l : List Span) (age : Nat) : (s.setSpans l age).map.spans = l := by
  unfold State.setSpans
  split
  · next h => exact h.symm
  · simp

theorem State.spans_raiseMap (s : State) (x : Span) (kind : SpanKind) (src : Source) :
    (s.raiseMap x kind src).map.spans = s.map.spans := rfl

theorem State.mapChange_addSpanTell (s : State) (kind : SpanKind) (src : Source) (a b : Pos) :
    MapChange s.tracker.pos s.map.spans (s.addSpanTell kind src a b).1.map.spans := by
  simp only [State.addSpanTell]
  split
  · exact .refl _ _
  · split
    · next hj =>
      rw [State.spans_setSpans]
      exact .merge _ (.refl _) (.inr ⟨le_rfl, hj⟩) fun _ => ⟨rfl, rfl⟩
    · split
      · next hroom =>
        rw [State.spans_setSpans]
        exact .put_shut _ (.refl _) ((Nat.succ_le_of_lt hroom).trans (le_max_left _ _)) fun _ => ⟨rfl, rfl⟩
      · split
        · exact .refl _ _
        · next t ht =>
          have mem := foldTarget_mem ht
          rw [State.spans_raiseMap, State.spans_setSpans]
          split
          · next hfold =>
            rw [foldClosed_isSome] at hfold
            refine .merge _ (MapChange.without_sublist t _)
              (.inl ((MapChange.length_without mem).trans (le_max_right _ _))) fun hl => ⟨?_, by rw [foldClosed_isSome, hfold]⟩
            have named := hl t mem
            rw [Span.Named, Option.isNone_eq_false_iff.mpr hfold, Option.isSome_eq_false_iff, Option.isNone_iff_eq_none] at named
            rw [foldClosed_openFor, named]
          · exact .replace mem (foldClosed_openFor _ t _) (by rw [← Option.not_isSome, foldClosed_isSome, Option.not_isSome])

theorem State.mapChange_openSpan (s : State) (kind : SpanKind) (src : Source) (a : Pos) :
    MapChange s.tracker.pos s.map.spans (s.openSpan kind src a).map.spans := by
  simp only [State.openSpan]
  split
  · exact .refl _ _
  · next hopen =>
    have free : ∀ y ∈ s.map.spans, y.openFor ≠ some src := by
      simp only [Bool.or_eq_true, not_or, Bool.not_eq_true, Option.isSome_eq_false_iff, Option.isNone_iff_eq_none] at hopen
      simpa [State.openSpanOf] using hopen.2
    split
    · next hroom =>
      rw [State.spans_setSpans]
      exact .opens _ (.refl _) ((Nat.succ_le_of_lt hroom).trans (le_max_left _ _)) free rfl rfl
    · split
      · exact .refl _ _
      · next t ht =>
        have mem := (List.mem_filter.mp (foldTarget_mem ht)).1
        rw [State.spans_raiseMap, State.spans_setSpans]
        exact .opens _ (MapChange.without_sublist t _) ((MapChange.length_without mem).trans (le_max_right _ _)) free rfl rfl

theorem State.mapChange_closeSpan (s : State) (src : Source) (a : Pos) :
    MapChange s.tracker.pos s.map.spans (s.closeSpan src a).map.spans := by
  simp only [State.closeSpan]
  split
  · exact .refl _ _
  · next t ht =>
    split_ifs
    · rw [State.spans_setSpans]
      exact .merge _ (MapChange.without_sublist t _)
        (.inl ((MapChange.length_without (openSpanOf_mem ht).1).trans (le_max_right _ _))) fun _ => ⟨rfl, rfl⟩
    · rw [State.spans_setSpans]
      exact .drop (MapChange.without_sublist t _)

theorem State.mapChange_prune (s : State) (c : Pos) : MapChange s.tracker.pos s.map.spans (s.prune c).map.spans := by
  rw [State.prune, State.spans_setSpans]
  exact .drop List.filter_sublist

theorem mapTurn_perm (e : Pos) (l : List Span) : (mapTurn e l).Perm l := by
  unfold mapTurn
  refine List.perm_append_comm.trans ?_
  exact List.filter_append_perm (Span.turned e) l

/-- A property of E and the list of spans that changes of the map and the turn of map order keep is kept by every step. -/
theorem keptByMap_of_list {Q : Pos → List Span → Prop} (change : ∀ {e l l'}, MapChange e l l' → Q e l → Q e l')
    (turn : ∀ {e l}, Q e l → Q (e + 1) (mapTurn (e + 1) l)) (empty : ∀ e, Q e []) :
    KeptByMap (fun s => Q s.tracker.pos s.map.spans) where
  same hm hp hs := by rwa [hm, hp]
  addSpan s kind src a b hs := by
    rw [tracker_of_erase (erase_addSpanTell s kind src a b (F := [.map, .inbox, .choice, .notices]) (by decide)) (by decide)]
    exact change (s.mapChange_addSpanTell kind src a b) hs
  openSpan s kind src a hs := by
    rw [tracker_of_erase (erase_openSpan s kind src a (F := [.map, .inbox, .choice, .notices]) (by decide)) (by decide)]
    exact change (s.mapChange_openSpan kind src a) hs
  closeSpan s src a hs := by
    rw [tracker_of_erase (erase_closeSpan s src a (F := [.map, .inbox, .choice]) (by decide)) (by decide)]
    exact change (s.mapChange_closeSpan src a) hs
  prune s c hs := by
    rw [tracker_of_erase (erase_prune s c (F := [.map, .inbox, .choice]) (by decide)) (by decide)]
    exact change (s.mapChange_prune c) hs
  turn s w hw hs := by
    show Q w.pos _
    rw [hw]
    exact turn hs
  empty s hs := by
    rw [hs]
    exact empty _

/-! ### Open spans (R4, R8, R9) -/

/-- The spans of the map: open spans named, no source with two of them. -/
def SpansFit (l : List Span) : Prop := (∀ x ∈ l, x.Named) ∧ ∀ src, openCount src l ≤ 1

theorem spansOk_iff (s : State) : s.SpansOk ↔ SpansFit s.map.spans := by
  simp only [State.SpansOk, SpansFit, openCount, List.countP_eq_length_filter, Span.Named]

theorem SpansFit.change {e : Pos} {l l' : List Span} (h : MapChange e l l') (hl : SpansFit l) : SpansFit l' := by
  cases h with
  | drop sub => exact ⟨fun x hx => hl.1 x (sub.mem hx), fun src => (openCount_sublist sub).trans (hl.2 src)⟩
  | @put rest x sub room open_ =>
    obtain ⟨named, count⟩ := open_ hl.1
    refine ⟨fun y hy => ?_, fun src => ?_⟩
    · rcases List.mem_cons.mp ((mapInsert_perm e x rest).mem_iff.mp hy) with rfl | hy
      · exact named
      · exact hl.1 y (sub.mem hy)
    · rw [openCount_perm (mapInsert_perm e x rest)]
      have := count src
      have := hl.2 src
      omega

theorem SpansFit.perm {l l' : List Span} (h : l'.Perm l) (hl : SpansFit l) : SpansFit l' :=
  ⟨fun x hx => hl.1 x (h.mem_iff.mp hx), fun src => (openCount_perm h).trans_le (hl.2 src)⟩

theorem keptByMap_SpansOk : KeptByMap State.SpansOk := by
  have kept := keptByMap_of_list (Q := fun _ l => SpansFit l) SpansFit.change (SpansFit.perm (mapTurn_perm _ _))
    (fun _ => ⟨by simp, by simp [openCount]⟩)
  exact (funext fun s => propext (spansOk_iff s) : State.SpansOk = _) ▸ kept

/-! ### Map order (R4) -/

/-- Where a span stands in map order: by the signed distance of its start from E, then by age. -/
def Span.place (e : Pos) (x : Span) : Int ×ₗ Nat := toLex (e.ahead x.start, x.age)

theorem ahead_inj {e p q : Pos} (h : e.ahead p = e.ahead q) : p = q := by
  have := BitVec.eq_of_toInt_eq h
  simpa using congrArg (· + e) this

theorem Span.before_iff (e : Pos) (x y : Span) : x.before e y = true ↔ x.place e < y.place e := by
  simp only [Span.before, startBelow, Bool.or_eq_true, Bool.and_eq_true, decide_eq_true_eq, Span.place, Prod.Lex.toLex_lt_toLex]
  refine or_congr_right (and_congr_left fun _ => ⟨fun h => by rw [h], ahead_inj⟩)

theorem Span.before_eq_false_iff (e : Pos) (x y : Span) : y.before e x = false ↔ x.place e ≤ y.place e := by
  rw [Bool.eq_false_iff, ne_eq, Span.before_iff, not_lt]

/-- The spans in map order. -/
def InMapOrder (e : Pos) (l : List Span) : Prop := l.Pairwise (fun x y => x.place e ≤ y.place e)

theorem mapInOrder_iff (s : State) : s.MapInOrder ↔ InMapOrder s.tracker.pos s.map.spans := by
  simp only [State.MapInOrder, InMapOrder, Span.before_eq_false_iff]

theorem InMapOrder.mapInsert {e : Pos} {l : List Span} (hl : InMapOrder e l) (x : Span) : InMapOrder e (mapInsert e x l) := by
  induction l with
  | nil => exact List.pairwise_singleton _ _
  | cons y l ih =>
    obtain ⟨hy, hrest⟩ := List.pairwise_cons.mp hl
    unfold Machine.mapInsert
    split
    · next h =>
      have hxy := (Span.before_iff e x y).mp h
      refine List.pairwise_cons.mpr ⟨fun z hz => ?_, hl⟩
      rcases List.mem_cons.mp hz with rfl | hz
      · exact hxy.le
      · exact hxy.le.trans (hy z hz)
    · next h =>
      refine List.pairwise_cons.mpr ⟨fun z hz => ?_, ih hrest⟩
      rcases List.mem_cons.mp ((mapInsert_perm e x l).mem_iff.mp hz) with rfl | hz
      · exact not_lt.mp (fun hlt => h ((Span.before_iff e z y).mpr hlt))
      · exact hy z hz

theorem InMapOrder.change {e : Pos} {l l' : List Span} (h : MapChange e l l') (hl : InMapOrder e l) : InMapOrder e l' := by
  cases h with
  | drop sub => exact List.Pairwise.sublist sub hl
  | put x sub _ _ => exact InMapOrder.mapInsert (List.Pairwise.sublist sub hl) x

/-- R4: E rising by a count brings every start a count nearer, but the lowest of all, which becomes the highest. -/
theorem ahead_succ (e p : Pos) :
    (p - (e + 1) = 0x7FFFFFFF#32 ∧ (e + 1).ahead p = 2147483647) ∨
      (p - (e + 1) ≠ 0x7FFFFFFF#32 ∧ (e + 1).ahead p = e.ahead p - 1 ∧ (e + 1).ahead p < 2147483647) := by
  have hx : p - (e + 1) = (p - e) - 1 := by
    bv_omega
  unfold Pos.ahead
  rw [hx]
  generalize p - e = d
  simp only [BitVec.toInt_eq_toNat_cond]
  bv_omega

theorem InMapOrder.turn {e : Pos} {l : List Span} (hl : InMapOrder e l) : InMapOrder (e + 1) (mapTurn (e + 1) l) := by
  have place_le (x y : Span) (e : Pos) : x.place e ≤ y.place e ↔
      e.ahead x.start < e.ahead y.start ∨ e.ahead x.start = e.ahead y.start ∧ x.age ≤ y.age := Prod.Lex.toLex_le_toLex
  have turned {x : Span} : x.turned (e + 1) = true ↔ x.start - (e + 1) = 0x7FFFFFFF#32 := decide_eq_true_iff
  refine List.pairwise_append.mpr ⟨?_, ?_, fun x hx y hy => ?_⟩
  · refine (List.Pairwise.sublist List.filter_sublist hl).imp_of_mem fun {x y} hx hy h => ?_
    have stays {z : Span} (hz : z ∈ l.filter (fun x => !x.turned (e + 1))) : (e + 1).ahead z.start = e.ahead z.start - 1 := by
      rcases ahead_succ e z.start with ⟨hturn, -⟩ | ⟨-, h, -⟩
      · exact absurd (turned.mpr hturn) (by simpa using (List.mem_filter.mp hz).2)
      · exact h
    rw [place_le] at h ⊢
    rw [stays hx, stays hy]
    omega
  · refine (List.Pairwise.sublist List.filter_sublist hl).imp_of_mem fun {x y} hx hy h => ?_
    have hstart : x.start = y.start := by
      have := (turned.mp (List.mem_filter.mp hx).2).trans (turned.mp (List.mem_filter.mp hy).2).symm
      bv_omega
    rw [place_le, hstart] at h ⊢
    omega
  · have hlow : (e + 1).ahead x.start < 2147483647 := by
      rcases ahead_succ e x.start with ⟨hturn, -⟩ | ⟨-, -, h⟩
      · exact absurd (turned.mpr hturn) (by simpa using (List.mem_filter.mp hx).2)
      · exact h
    have hhigh : (e + 1).ahead y.start = 2147483647 := by
      rcases ahead_succ e y.start with ⟨-, h⟩ | ⟨hturn, -⟩
      · exact h
      · exact absurd (turned.mp (List.mem_filter.mp hy).2) hturn
    rw [place_le]
    omega

theorem keptByMap_MapInOrder : KeptByMap State.MapInOrder := by
  have kept := keptByMap_of_list InMapOrder.change InMapOrder.turn (fun _ => List.Pairwise.nil)
  exact (funext fun s => propext (mapInOrder_iff s) : State.MapInOrder = _) ▸ kept

/-- Settles O10: every operation of the map drops spans or puts one in its place, and the turn of map order follows E as it rises. -/
theorem stepKeepsSpans : Obligations.StepKeepsSpans :=
  ⟨fun _ _ hs hst => keptByMap_SpansOk.keptByStep.step hs hst, fun _ _ hs hst => keptByMap_MapInOrder.keptByStep.step hs hst⟩

end Sys2Proof.Machine

/-! The fixed room of the stores of records through a step (R4, R24, R36, R87, R191). -/

namespace Sys2Proof.Machine

/-! ### The Reject Map -/

/-- R4: the map holds at most 48 spans. -/
def State.MapRoom (s : State) : Prop := s.map.spans.length ≤ Config.mapRoom

theorem keptByMap_MapRoom : KeptByMap State.MapRoom := by
  refine keptByMap_of_list (Q := fun _ l => l.length ≤ Config.mapRoom) (fun {e l l'} h hl => ?_) ?_ (fun _ => Nat.zero_le _)
  · cases h with
    | drop sub => exact sub.length_le.trans hl
    | put x sub room =>
      rw [length_mapInsert]
      exact room.trans (max_le le_rfl hl)
  · intro e l hl
    rwa [length_mapTurn]

/-! ### The Order Book -/

/-- The parts the Order Book does not lie in. -/
def bookless : List Part :=
  [.pending, .inbox, .choice, .tracker, .regs, .map, .cutoff, .slitter, .stacker, .stands, .splice, .scanner, .heat, .glue, .gov,
    .cfg, .limits, .link, .notices]

/-- R24, R36: the book holds at most 32 orders and the completed list 16. -/
def State.BookRoom (s : State) : Prop :=
  s.book.orders.length ≤ Config.bookRoom ∧ s.book.completed.length ≤ Config.completedRoom

theorem length_placeAll {s : State} {bad : List (Int × Int)} {before : Option Pos} {l l' : List Order}
    (h : s.placeAll bad before l = some l') : l'.length = l.length := by
  induction l generalizing before l' with
  | nil => cases h; rfl
  | cons o l ih =>
    have longer {before : Option Pos} {o' : Order} (h : (s.placeAll bad before l).map (o' :: ·) = some l') :
        l'.length = (o :: l).length := by
      obtain ⟨m, hm, rfl⟩ := Option.map_eq_some_iff.mp h
      simp [ih hm]
    unfold State.placeAll at h
    split at h
    · exact longer h
    · dsimp only at h
      split at h
      · cases h
      · exact longer h

namespace State.BookRoom

variable {s t : State}

theorem of_erase (h : t.erase bookless = s.erase bookless) (hs : s.BookRoom) : t.BookRoom := by
  rwa [State.BookRoom, book_of_erase h (by decide)]

theorem with_book (hs : s.BookRoom) {b : OrderBook} (ho : b.orders.length ≤ s.book.orders.length)
    (hc : b.completed = s.book.completed) : ({ s with book := b } : State).BookRoom :=
  ⟨ho.trans hs.1, hc ▸ hs.2⟩

theorem updateOrder (hs : s.BookRoom) (id : Nat) (f : Order → Order) : (s.updateOrder id f).BookRoom :=
  hs.with_book (by simp) rfl

theorem freezeOrder (hs : s.BookRoom) (o : Order) : (s.freezeOrder o).BookRoom := by
  have frozen (f : Order → Order) := hs.updateOrder o.spec.id f
  simp only [State.freezeOrder]
  refine of_erase (erase_post _ _ (by decide)) ?_
  split
  · refine of_erase (erase_boundaryActions _ _ _ (by decide)) ?_
    exact of_erase (erase_post _ _ (by decide)) (of_erase (erase_raise _ _ _ (by decide)) (frozen _))
  · exact of_erase (erase_post _ _ (by decide)) (of_erase (erase_raise _ _ _ (by decide)) (frozen _))

theorem followFreeze (fuel : Nat) (hs : s.BookRoom) : (State.followFreeze fuel s).BookRoom := by
  induction fuel generalizing s with
  | zero => exact hs
  | succ fuel ih =>
    simp only [State.followFreeze]
    (repeat' split)
    · exact of_erase (by simp [bookless]) hs
    · exact ih (freezeOrder (of_erase (erase_withdraw _ _ (by decide)) hs) _)
    · exact hs
    · exact of_erase (by simp [bookless]) hs

theorem updateFreeze (hs : s.BookRoom) : s.updateFreeze.BookRoom := hs.followFreeze _

theorem placementPass (hs : s.BookRoom) : s.placementPass.BookRoom := by
  simp only [State.placementPass]
  split
  · exact updateFreeze (hs.with_book le_rfl rfl)
  · next l hl =>
    have placed : ({ s with book := { s.book with orders := l, notApplied := false } } : State).BookRoom :=
      hs.with_book (length_placeAll hl).le rfl
    refine updateFreeze ?_
    split
    · exact placed
    · exact of_erase (erase_post _ _ (by decide)) placed

theorem takeStartReport (hs : s.BookRoom) (id : Nat) : (s.takeStartReport id).BookRoom := by
  simp only [State.takeStartReport]
  (repeat' split)
  · exact hs
  · exact of_erase (erase_post _ _ (by decide)) (hs.updateOrder _ _)
  · exact hs

theorem takePositionReport (hs : s.BookRoom) (id : Nat) (isEnd : Bool) : (s.takePositionReport id isEnd).BookRoom := by
  simp only [State.takePositionReport]
  (repeat' split)
  · exact hs.updateOrder _ _
  · exact of_erase (erase_post _ _ (by decide)) ((hs.updateOrder _ _).updateOrder _ _)
  · exact hs.updateOrder _ _

theorem takeStackReport (hs : s.BookRoom) (id : Nat) : (s.takeStackReport id).BookRoom := by
  simp only [State.takeStackReport]
  (repeat' split)
  · exact hs.updateOrder _ _
  · exact hs.updateOrder _ _
  · exact of_erase (erase_raise _ _ _ (by decide)) (hs.updateOrder _ _)
  · exact hs.updateOrder _ _

/-- R36: the completed list takes an order in place of its oldest when it is full. -/
theorem complete (hs : s.BookRoom) (o : Order) (p : Option Pos) :
    ({ s with book := { s.book.complete o with lastDoneEnd := p } } : State).BookRoom ∧
      ({ s with book := s.book.complete o } : State).BookRoom := by
  have ho : (s.book.complete o).orders.length ≤ Config.bookRoom := (List.length_filter_le _ _).trans hs.1
  have hc : (s.book.complete o).completed.length ≤ Config.completedRoom := by
    have h := hs.2
    simp only [OrderBook.complete, List.length_append, List.length_singleton]
    split
    · rw [List.length_drop]
      have : 1 ≤ Config.completedRoom := by decide
      omega
    · omega
  exact ⟨⟨ho, hc⟩, ho, hc⟩

theorem takeEndReport (hs : s.BookRoom) (id : Nat) : (s.takeEndReport id).BookRoom := by
  have completed (o : Order) (p : Option Pos) : (({ s with book := { s.book.complete o with lastDoneEnd := p } }.raise srcOrderDone
      (.orderDone o)).post .orderChange).BookRoom := of_erase (by simp [bookless]) (hs.complete o p).1
  simp only [State.takeEndReport]
  split
  · exact hs
  · split_ifs
    · exact of_erase (erase_post _ _ (by decide)) (completed _ _)
    · exact completed _ _
    · exact hs

/-! #### Requests -/

theorem orders_setNaming (b : OrderBook) (code : Nat) (f : Nat → Nat) :
    (b.setNaming code f).orders = b.orders ∧ (b.setNaming code f).completed = b.completed := by
  unfold OrderBook.setNaming
  split <;> exact ⟨rfl, rfl⟩

theorem acceptOrder (hs : s.BookRoom) (h : s.book.orders.length < Config.bookRoom) (o : Order) : (s.acceptOrder o).BookRoom := by
  obtain ⟨ho, hc⟩ := orders_setNaming s.book o.spec.grade (· + 1)
  have entered : ({ s with book := { s.book.setNaming o.spec.grade (· + 1) with
      orders := (s.book.setNaming o.spec.grade (· + 1)).orders ++ [o] } } : State).BookRoom := by
    refine ⟨?_, hc ▸ hs.2⟩
    rw [ho, List.length_append]
    exact h
  simp only [State.acceptOrder]
  refine placementPass (of_erase (erase_post _ _ (by decide)) (of_erase (erase_post _ _ (by decide)) ?_))
  split
  · exact entered
  · exact of_erase (erase_headActions _ _ _ (by decide)) entered

theorem reqAddOrder (hs : s.BookRoom) (o : OrderSpec) : (s.reqAddOrder o).1.BookRoom := by
  simp only [State.reqAddOrder]
  split_ifs with _ _ _ _ _ hroom
  · exact hs
  · exact hs
  · exact hs
  · exact hs
  · exact hs
  · exact hs
  · split
    · exact hs
    · split_ifs
      · exact hs
      · split <;> exact hs.acceptOrder (Nat.lt_of_not_le hroom) _

theorem reqChangeCount (hs : s.BookRoom) (id n a : Nat) : (s.reqChangeCount id n a).1.BookRoom := by
  simp only [State.reqChangeCount]
  split
  · exact hs
  · split_ifs
    · exact hs
    · exact hs
    · exact hs
    · exact hs
    · exact (hs.updateOrder _ _).placementPass

theorem reqCancelOrder (hs : s.BookRoom) (id : Nat) : (s.reqCancelOrder id).1.BookRoom := by
  simp only [State.reqCancelOrder]
  split
  · exact hs
  · split
    · exact hs
    · refine placementPass (of_erase (erase_post _ _ (by decide)) ?_)
      split
      · exact updateOrder (hs.complete _ none).2 _ _
      · exact (hs.complete _ none).2

/-- The book at reset. -/
theorem reset (h : t.book = OrderBook.reset) : t.BookRoom := by
  rw [State.BookRoom, h]
  exact ⟨Nat.zero_le _, Nat.zero_le _⟩

theorem powerOn (s : State) (a b estop pressure : Bool) : (s.powerOn a b estop pressure).BookRoom := by
  simp only [State.powerOn]
  split
  · exact of_erase (erase_takeAssert _ (by decide)) (reset rfl)
  · exact reset rfl

theorem reqResetPart (hs : s.BookRoom) : s.reqResetPart.1.BookRoom := by
  simp only [State.reqResetPart]
  split
  · exact hs
  · exact reset rfl

/-! #### The step -/

theorem answer (hs : s.BookRoom) (i : Instr) : (s.answer i).1.BookRoom := by
  cases i with
  | addOrder _ o => exact hs.reqAddOrder o
  | changeCount _ id n a => exact hs.reqChangeCount id n a
  | cancelOrder _ id => exact hs.reqCancelOrder id
  | setGrade _ c g =>
    simp only [State.answer, State.reqSetGrade]
    (repeat' split) <;> exact hs
  | resetPart => exact hs.reqResetPart
  | _ => exact hs.of_erase (by simp [State.answer, bookless, State.reqReadLine, State.reqReadMap, State.reqListOrders,
      State.reqReadCompleted, State.reqReadStacker, State.reqReadSummary])

theorem field (hs : s.BookRoom) (i : Instr) (hi : encodeRequest i = none) (hu : ∀ k t, i ≠ .unknownRequest k t) :
    (effect i s).BookRoom := by
  cases i with
  | powerOn a b c d => exact powerOn s a b c d
  | planRefreshExpiry => exact hs.placementPass
  | unknownRequest k t => exact absurd rfl (hu k t)
  | _ => cases hi <;> exact hs.of_erase (by simp [effect, bookless, State.takeGovernorPeriod, State.takeCycleExpiry,
      State.takeReverse])

theorem event (hs : s.BookRoom) (e : Ev) (he : e.isRequest = false) : (s.handle e).BookRoom := by
  cases e with
  | mapChange => exact hs.placementPass
  | startReport id => exact hs.takeStartReport id
  | positionReport id isEnd => exact hs.takePositionReport id isEnd
  | sheetReport id m cls long => exact hs.updateOrder _ _
  | goodReport id => exact hs.updateOrder _ _
  | overflowReport id => exact hs.updateOrder _ _
  | stackReport id => exact hs.takeStackReport id
  | endReport id => exact hs.takeEndReport id
  | crossing p c =>
    cases p with
    | freeze => exact hs.updateFreeze
    | _ => exact hs.of_erase (by simp [State.handle, State.takeCrossing, bookless])
  | request f => cases he
  | _ => exact hs.of_erase (by simp [State.handle, bookless])

end State.BookRoom

theorem keptByStep_BookRoom : KeptByStep bookless State.BookRoom where
  erased := State.BookRoom.of_erase
  waiting := by simp [bookless]
  limits _ hs := hs.of_erase (by simp [bookless])
  notice _ hs := hs.of_erase (by simp [bookless])
  link _ _ _ hs := hs.of_erase (by simp [bookless])
  field _ i hi hu hs := hs.field i hi hu
  event _ e he hs := hs.event e he
  answer _ i hs := hs.answer i

/-! ### The out-conveyor -/

/-- The parts the Stacker does not lie in. -/
def stackerless : List Part :=
  [.pending, .inbox, .choice, .tracker, .regs, .map, .book, .cutoff, .slitter, .stands, .splice, .scanner, .heat, .glue, .gov,
    .cfg, .limits, .link, .notices]

/-- R85, R87: the out-conveyor holds at most four stacks, and has a place free while a transfer is under way. -/
def Stacker.HasRoom (k : Stacker) : Prop :=
  k.out.length ≤ Config.conveyorRoom ∧ (k.mode = .transferring → k.out.length < Config.conveyorRoom)

/-- The out-conveyor of the state has room. -/
def State.OutRoom (s : State) : Prop := s.stacker.HasRoom

theorem Stacker.HasRoom.congr {k q : Stacker} (hk : k.HasRoom) (ho : q.out = k.out) (hm : q.mode = k.mode) : q.HasRoom := by
  rwa [Stacker.HasRoom, ho, hm]

theorem Stacker.setLast_keeps (k : Stacker) (id : Nat) : (k.setLast id).out = k.out ∧ (k.setLast id).mode = k.mode := by
  unfold Stacker.setLast
  (repeat' split) <;> exact ⟨rfl, rfl⟩

theorem State.place_keeps (s : State) (id : Nat) :
    (s.place id).1.out = s.stacker.out ∧ (s.place id).1.mode = s.stacker.mode := by
  simp only [State.place]
  (repeat' split) <;> exact ⟨rfl, rfl⟩

namespace State.OutRoom

variable {s t : State}

theorem of_erase (h : t.erase stackerless = s.erase stackerless) (hs : s.OutRoom) : t.OutRoom := by
  rwa [State.OutRoom, stacker_of_erase h (by decide)]

/-- The Stacker changed, but for its mode and its out-conveyor. -/
theorem with_stacker (hs : s.OutRoom) {k : Stacker} (ho : k.out = s.stacker.out) (hm : k.mode = s.stacker.mode) :
    ({ s with stacker := k } : State).OutRoom := Stacker.HasRoom.congr (k := s.stacker) hs ho hm

theorem endTest (hs : s.OutRoom) (id : Nat) : (s.endTest id).OutRoom := by
  simp only [State.endTest]
  split_ifs
  · exact of_erase (erase_post _ _ (by decide)) (hs.with_stacker rfl rfl)
  · exact hs

theorem startTransfer (hs : s.OutRoom) : s.startTransfer.OutRoom := by
  unfold State.startTransfer
  split
  · next h => exact ⟨hs.1, fun _ => h.2⟩
  · exact ⟨hs.1, fun h => nomatch h⟩

theorem tryClose (hs : s.OutRoom) : s.tryClose.OutRoom := by
  simp only [State.tryClose]
  split
  · exact hs
  · split_ifs
    · refine endTest (startTransfer (of_erase (erase_post _ _ (by decide)) ?_)) _
      exact hs.with_stacker rfl rfl
    · exact hs

theorem takeFinal (hs : s.OutRoom) (id : Nat) : (s.takeFinal id).OutRoom := by
  obtain ⟨ho, hm⟩ := s.stacker.setLast_keeps id
  refine endTest (tryClose ?_) id
  exact hs.with_stacker ho hm

theorem takeFinals (hs : s.OutRoom) (l : List Cover) : (s.takeFinals l).OutRoom := by
  unfold State.takeFinals State.each
  induction l.filter (fun c => c.final) generalizing s with
  | nil => exact hs
  | cons c l ih => exact ih (hs.takeFinal c.id)

theorem gateDecide (hs : s.OutRoom) (r : Sheet) : (s.gateDecide r).OutRoom := by
  have diverted : s.divertSheet.OutRoom := hs.with_stacker rfl rfl
  simp only [State.gateDecide]
  split
  · next c _ _ _ =>
    obtain ⟨ho, hm⟩ := s.place_keeps c.id
    split
    · split
      · exact of_erase (erase_followStack _ (by decide)) (hs.with_stacker ho hm)
      · exact hs.with_stacker ho hm
    · exact of_erase (erase_post _ _ (by decide)) diverted
  · exact diverted

theorem takeGate (hs : s.OutRoom) : s.takeGate.OutRoom := by
  simp only [State.takeGate]
  split
  · exact hs
  · refine of_erase (erase_stackMarked _ _ (by decide)) (of_erase (erase_followGate _ (by decide)) ?_)
    exact (hs.gateDecide _).takeFinals _

theorem takeLanding (hs : s.OutRoom) : s.takeLanding.OutRoom := by
  simp only [State.takeLanding]
  split
  · exact hs
  · next r _ =>
    split
    · exact hs
    · next id number _ =>
      have landed : ({ s with stacker := { s.stacker.land id number with train := dropPassed (s.stacker.land id number).train } }.post
          (.goodReport id)).OutRoom := of_erase (erase_post _ _ (by decide)) (hs.with_stacker rfl rfl)
      refine of_erase (erase_stackMarked _ _ (by decide)) (of_erase (erase_followStack _ (by decide)) (endTest ?_ id))
      split_ifs
      · exact landed.tryClose
      · exact landed

theorem takeTransferDone (hs : s.OutRoom) : s.takeTransferDone.OutRoom := by
  simp only [State.takeTransferDone]
  split
  · next t hmode _ =>
    have moved (e : OutEntry) : ({ s with stacker := { s.stacker with
        transfer := false, out := s.stacker.out ++ [e], table := s.stacker.fingers, fingers := none, mode := .building } } :
        State).OutRoom := by
      refine ⟨?_, fun h => nomatch h⟩
      rw [List.length_append]
      exact hs.2 hmode
    have closed (e : OutEntry) (d : EventData) := tryClose (of_erase (erase_raise _ srcStackOut d (by decide)) (moved e))
    refine of_erase (erase_stackMarked _ _ (by decide)) ?_
    split
    · exact (closed _ _).endTest _
    · exact closed _ _
  · exact hs

theorem takeStackTaken (hs : s.OutRoom) : s.takeStackTaken.OutRoom := by
  simp only [State.takeStackTaken]
  split
  · exact hs
  · next e l hout =>
    have room : l.length < Config.conveyorRoom := by
      have := hs.1
      rw [hout] at this
      exact this
    have taken : ({ s with stacker := { s.stacker with out := l } } : State).OutRoom := ⟨room.le, fun _ => room⟩
    refine of_erase (erase_stackMarked _ _ (by decide)) ?_
    split
    · exact taken.startTransfer
    · exact taken

theorem stackModeEntry (hs : s.OutRoom) (before after : Mode) : (s.stackModeEntry before after).OutRoom := by
  simp only [State.stackModeEntry]
  refine of_erase (erase_stackMarked _ _ (by decide)) ?_
  (repeat' split)
  · exact ⟨hs.1, fun h => nomatch h⟩
  · exact hs
  · exact hs.startTransfer
  · exact hs

theorem takeModeEntry (hs : s.OutRoom) (before after : Mode) : (s.takeModeEntry before after).OutRoom := by
  unfold State.takeModeEntry
  refine of_erase (erase_glueModeEntry _ _ (by decide)) (of_erase (erase_spliceModeEntry _ _ _ (by decide)) ?_)
  refine of_erase (erase_standsModeEntry _ (by decide)) (stackModeEntry ?_ before after)
  exact of_erase (by simp [stackerless]) hs

/-- The Stacker at reset. -/
theorem reset (h : t.stacker = Stacker.reset) : t.OutRoom := by
  rw [State.OutRoom, h]
  exact ⟨Nat.zero_le _, fun h => nomatch h⟩

theorem powerOn (s : State) (a b estop pressure : Bool) : (s.powerOn a b estop pressure).OutRoom := by
  simp only [State.powerOn]
  split
  · exact of_erase (erase_takeAssert _ (by decide)) (reset rfl)
  · exact reset rfl

theorem reqResetPart (hs : s.OutRoom) : s.reqResetPart.1.OutRoom := by
  simp only [State.reqResetPart]
  split
  · exact hs
  · exact reset rfl

theorem answer (hs : s.OutRoom) (i : Instr) : (s.answer i).1.OutRoom := by
  cases i with
  | resetPart => exact hs.reqResetPart
  | _ => exact hs.of_erase (by simp [State.answer, stackerless, State.reqReadLine, State.reqReadMap, State.reqListOrders,
      State.reqReadCompleted, State.reqReadStacker, State.reqReadSummary])

theorem field (hs : s.OutRoom) (i : Instr) (hi : encodeRequest i = none) (hu : ∀ k t, i ≠ .unknownRequest k t) :
    (effect i s).OutRoom := by
  cases i with
  | powerOn a b c d => exact powerOn s a b c d
  | transferDone => exact hs.takeTransferDone
  | stackTaken => exact hs.takeStackTaken
  | unknownRequest k t => exact absurd rfl (hu k t)
  | _ => cases hi <;> exact hs.of_erase (by simp [effect, stackerless, State.takeGovernorPeriod, State.takeCycleExpiry,
      State.takeReverse])

theorem event (hs : s.OutRoom) (e : Ev) (he : e.isRequest = false) : (s.handle e).OutRoom := by
  cases e with
  | sheet r =>
    simp only [State.handle, State.takeSheet]
    split
    · exact of_erase (erase_followGate _ (by decide)) (hs.with_stacker rfl rfl)
    · exact hs.with_stacker rfl rfl
  | modeEntry before after => exact hs.takeModeEntry before after
  | crossing p c =>
    cases p with
    | gate => exact hs.takeGate
    | stackPoint => exact hs.takeLanding
    | _ => exact hs.of_erase (by simp [State.handle, State.takeCrossing, stackerless])
  | request f => cases he
  | _ => exact hs.of_erase (by simp [State.handle, stackerless])

end State.OutRoom

theorem keptByStep_OutRoom : KeptByStep stackerless State.OutRoom where
  erased := State.OutRoom.of_erase
  waiting := by simp [stackerless]
  limits _ hs := hs.of_erase (by simp [stackerless])
  notice _ hs := hs.of_erase (by simp [stackerless])
  link _ _ _ hs := hs.of_erase (by simp [stackerless])
  field _ i hi hu hs := hs.field i hi hu
  event _ e he hs := hs.event e he
  answer _ i hs := hs.answer i

/-! ### The receive queue -/

/-- The parts the Line Link does not lie in. -/
def linkless : List Part :=
  [.pending, .inbox, .choice, .tracker, .regs, .map, .book, .cutoff, .slitter, .stacker, .stands, .splice, .scanner, .heat, .glue,
    .gov, .cfg, .limits, .notices]

/-- R191: the receive queue holds at most four frames. -/
def State.QueueRoom (s : State) : Prop := s.link.queue.length ≤ Config.queueRoom

namespace State.QueueRoom

variable {s t : State}

theorem of_erase (h : t.erase linkless = s.erase linkless) (hs : s.QueueRoom) : t.QueueRoom := by
  rwa [State.QueueRoom, link_of_erase h (by decide)]

theorem with_link (hs : s.QueueRoom) {l : Link} (h : l.queue = s.link.queue) : ({ s with link := l } : State).QueueRoom := by
  rwa [State.QueueRoom, h]

theorem offerNotice (hs : s.QueueRoom) : s.offerNotice.QueueRoom := by
  unfold State.offerNotice State.makeNotice
  (repeat' split) <;> exact hs

theorem takeNext (hs : s.QueueRoom) : s.takeNext.QueueRoom := by
  simp only [State.takeNext]
  split
  · next f l _ hq =>
    refine of_erase (erase_post _ _ (by decide)) (le_trans ?_ hs)
    rw [hq]
    exact Nat.le_succ _
  · exact hs

theorem offerFrame (hs : s.QueueRoom) (f : Frame) : (s.offerFrame f).QueueRoom := by
  simp only [State.offerFrame]
  split
  · next h =>
    refine takeNext ?_
    rw [State.QueueRoom, List.length_append]
    exact h
  · exact of_erase (erase_raise _ _ _ (by decide)) hs

theorem receive (fuel : Nat) (l : List Byte) (hs : s.QueueRoom) : (State.receive fuel l s).QueueRoom := by
  induction fuel generalizing s l with
  | zero => exact hs
  | succ fuel ih =>
    cases l with
    | nil => exact hs
    | cons b l =>
      simp only [State.receive]
      have heard (st : RxState) (bs : List Byte) : (s.setRx st bs).QueueRoom := hs.with_link rfl
      split
      · exact ih _ (heard _ _)
      · exact ih _ ((heard _ _).offerFrame _)
      · exact ih _ (of_erase (erase_discard _ _ _ (by decide)) (heard _ _))

theorem takeByte (hs : s.QueueRoom) (b : Byte) (stopHigh : Bool) : (s.takeByte b stopHigh).QueueRoom := by
  simp only [State.takeByte]
  split_ifs
  · exact hs.receive _ _
  · exact hs
  · exact of_erase (erase_discard _ _ _ (by decide)) (hs.with_link rfl)

theorem takeGap (hs : s.QueueRoom) : s.takeGap.QueueRoom := by
  simp only [State.takeGap]
  split_ifs
  · exact hs
  · exact of_erase (erase_discard _ _ _ (by decide)) (hs.with_link rfl)

theorem queue_nextReply (l : Link) : l.nextReply.queue = l.queue := by
  unfold Link.nextReply
  split <;> rfl

theorem takeLastByte (hs : s.QueueRoom) : s.takeLastByte.QueueRoom := by
  simp only [State.takeLastByte]
  split
  · exact hs
  · exact hs.with_link (queue_nextReply _)
  · have freed (c : Nat) : ({ s with link := { s.link.nextReply with inHand := none }, choice := c } : State).QueueRoom :=
      hs.with_link (queue_nextReply _)
    split_ifs
    · exact freed s.choice
    · exact (freed _).takeNext
    · exact (freed _).offerNotice.takeNext

/-- The queue of a link at power-on. -/
theorem reset {r : Rate} (h : t.link = Link.resetWith r) : t.QueueRoom := by
  rw [State.QueueRoom, h]
  exact Nat.zero_le _

theorem powerOn (s : State) (a b estop pressure : Bool) : (s.powerOn a b estop pressure).QueueRoom := by
  simp only [State.powerOn]
  split
  · exact of_erase (erase_takeAssert _ (by decide)) (reset rfl)
  · exact reset rfl

theorem answer (hs : s.QueueRoom) (i : Instr) : (s.answer i).1.QueueRoom := by
  cases i with
  | resetPart =>
    simp only [State.answer, State.reqResetPart]
    split <;> exact hs
  | _ => exact hs.of_erase (by simp [State.answer, linkless, State.reqReadLine, State.reqReadMap, State.reqListOrders,
      State.reqReadCompleted, State.reqReadStacker, State.reqReadSummary])

theorem field (hs : s.QueueRoom) (i : Instr) (hi : encodeRequest i = none) (hu : ∀ k t, i ≠ .unknownRequest k t) :
    (effect i s).QueueRoom := by
  cases i with
  | powerOn a b c d => exact powerOn s a b c d
  | byteReceived b h => exact hs.takeByte b h
  | gapTimerExpiry => exact hs.takeGap
  | lastByteSent => exact hs.takeLastByte
  | unknownRequest k t => exact absurd rfl (hu k t)
  | _ => cases hi <;> exact hs.of_erase (by simp [effect, linkless, State.takeGovernorPeriod, State.takeCycleExpiry,
      State.takeReverse])

theorem event (hs : s.QueueRoom) (e : Ev) (he : e.isRequest = false) : (s.handle e).QueueRoom := by
  cases e with
  | crossing p c => cases p <;> exact hs.of_erase (by simp [State.handle, State.takeCrossing, linkless])
  | request f => cases he
  | _ => exact hs.of_erase (by simp [State.handle, linkless])

end State.QueueRoom

theorem keptByStep_QueueRoom : KeptByStep linkless State.QueueRoom where
  erased := State.QueueRoom.of_erase
  waiting := by simp [linkless]
  limits _ hs := hs.of_erase (by simp [linkless])
  notice _ hs := hs.offerNotice
  link _ _ h hs := hs.with_link h
  field _ i hi hu hs := hs.field i hi hu
  event _ e he hs := hs.event e he
  answer _ i hs := hs.answer i

/-! ### All the room -/

theorem roomOk_iff (s : State) : s.RoomOk ↔ s.MapRoom ∧ s.BookRoom ∧ s.OutRoom ∧ s.QueueRoom := by
  unfold State.RoomOk State.MapRoom State.BookRoom State.OutRoom Stacker.HasRoom State.QueueRoom
  simp only [Config.mapRoom, Config.bookRoom, Config.completedRoom, Config.conveyorRoom, Config.queueRoom, Nat.lt_succ_iff]
  tauto

/-- Settles O9: each store keeps its own room through every step; the out-conveyor has a place free for the stack in transfer. -/
theorem stepKeepsRoom : Obligations.StepKeepsRoom := by
  intro s t hs hst
  obtain ⟨hmap, hbook, hout, hqueue⟩ := (roomOk_iff s).mp hs
  exact (roomOk_iff t).mpr ⟨keptByMap_MapRoom.keptByStep.step hmap hst, keptByStep_BookRoom.step hbook hst,
    keptByStep_OutRoom.step hout hst, keptByStep_QueueRoom.step hqueue hst⟩

end Sys2Proof.Machine

/-! The queue, the cascade of a step, power-on and reset (O2 to O7). -/

namespace Sys2Proof.Machine

/-! ### The waiting commands (log 1) -/

/-- Every part but the waiting commands. -/
def queueless : List Part :=
  [.inbox, .choice, .tracker, .regs, .map, .book, .cutoff, .slitter, .stacker, .stands, .splice, .scanner, .heat, .glue, .gov, .cfg,
    .limits, .link, .notices]

theorem pending_of_erase {s t : State} (h : t.erase queueless = s.erase queueless) : t.pending = s.pending :=
  by simpa [State.erase, queueless] using congrArg State.pending h

theorem pending_answer (s : State) (i : Instr) : (s.answer i).1.pending = s.pending := by
  cases i with
  | resetPart =>
    simp only [State.answer, State.reqResetPart]
    split <;> rfl
  | _ => exact pending_of_erase (by simp [State.answer, queueless, State.reqReadLine, State.reqReadMap, State.reqListOrders,
      State.reqReadCompleted, State.reqReadStacker, State.reqReadSummary])

theorem pending_effect (i : Instr) (s : State) : (effect i s).pending = s.pending := by
  cases hi : encodeRequest i with
  | some f =>
    rw [effect_of_encodeRequest hi]
    exact pending_answer _ i
  | none =>
    cases i with
    | powerOn a b estop pressure =>
      simp only [effect, State.powerOn]
      split
      · exact pending_of_erase (erase_takeAssert _ (by decide))
      · rfl
    | unknownRequest k t => rfl
    | _ => cases hi <;> exact pending_of_erase (by simp [effect, queueless, State.takeGovernorPeriod, State.takeCycleExpiry,
        State.takeReverse])

theorem pending_handle (s : State) (e : Ev) : (s.handle e).pending = s.pending := by
  cases e with
  | request f =>
    simp only [State.handle, State.takeRequest, State.serve]
    split
    · exact pending_answer _ _
    · rfl
  | crossing p c => cases p <;> exact pending_of_erase (by simp [State.handle, State.takeCrossing, queueless])
  | _ => exact pending_of_erase (by simp [State.handle, queueless])

theorem pending_finish (s : State) : s.finish.pending = s.pending := by
  have refreshed (t : State) : t.refreshLimits.pending = t.pending := pending_of_erase (by simp [queueless])
  have drained (k : Nat) (t : State) : (State.drain k t).pending = t.pending := by
    induction k generalizing t with
    | zero => rfl
    | succ k ih =>
      cases ht : t.inbox with
      | nil => rw [drain_quiet _ _ ht]
      | cons e l => rw [drain_cons k t e l ht, ih, refreshed, pending_handle]
  exact (pending_of_erase (erase_offerNotice _ (by decide))).trans ((drained _ _).trans (refreshed s))

/-- Settles O2: neither a command's own effect nor the events of its step touch the queue. -/
theorem execKeepsQueue : Obligations.ExecKeepsQueue := by
  intro c s t h
  rw [exec_eq] at h
  cases h
  rw [pending_finish, pending_effect]

/-! ### Calm cascades -/

theorem wild_eq_nil_iff (s : State) : s.hub.wild = [] ↔ ∀ e ∈ s.inbox, e.calm = true := by
  simp [State.hub, List.filter_eq_nil_iff]

theorem hub_inbox_tail {s : State} {e : Ev} {l : List Ev} (hs : s.inbox = e :: l) (h : e.calm = true) :
    ({ s with inbox := l } : State).hub = s.hub := by
  simp [State.hub, hs, h]

theorem hub_drain_calm (k : Nat) (s : State) (h : ∀ e ∈ s.inbox, e.calm = true) : (State.drain k s).hub = s.hub := by
  induction k generalizing s with
  | zero => rfl
  | succ k ih =>
    cases hs : s.inbox with
    | nil => rw [drain_quiet _ _ hs]
    | cons e l =>
      have calm : e.calm = true := h e (by simp [hs])
      have taken : (({ s with inbox := l }.handle e).refreshLimits).hub = s.hub := by
        rw [hub_refreshLimits, hub_handle _ e calm, hub_inbox_tail hs calm]
      rw [drain_cons k s e l hs, ih _ ((wild_eq_nil_iff _).mp (by rw [taken, (wild_eq_nil_iff s).mpr h])), taken]

/-- Settles O3: every calm event leaves the hub, and what it posts is calm again. -/
theorem calmCascadeKeepsHub : Obligations.CalmCascadeKeepsHub := by
  intro s h
  have drained : (State.drain Config.cascadeBound s.refreshLimits).hub = s.hub := by
    rw [hub_drain_calm _ _ (by simpa using h), hub_refreshLimits]
  have emptied : ({ State.drain Config.cascadeBound s.refreshLimits with inbox := [] } : State).hub =
      { (State.drain Config.cascadeBound s.refreshLimits).hub with wild := [] } := rfl
  unfold State.finish
  rw [hub_offerNotice, emptied, drained]
  exact congrArg (fun w => ({ s.hub with wild := w } : Hub)) ((wild_eq_nil_iff s).mpr h).symm

/-- Settles O4: every event but a request leaves the steady part, and with it the core. -/
theorem requestFreeCascadeKeepsCore : Obligations.RequestFreeCascadeKeepsCore :=
  fun s h => ((steady_eq_iff _ _).mp (steady_finish s h)).1

/-! ### Power-on and reset (R186, R198, R206) -/

/-- Owners whose limits stand as they would set them set nothing and mark nothing. -/
theorem refreshLimits_of_limitsNow {s : State} (h : s.limitsNow = s.limits) : s.refreshLimits = s := by
  simp [State.refreshLimits, h, State.markIf]

/-- R186: with the blocks reset every limit is inactive and REQUESTED 0, whatever the link and the levels of the inputs. -/
theorem limitsNow_reset (p : List Instr) (c : Nat) (sl : Slitter) (h : Heat) (estop : Bool) (l : Link) (u : Notices) :
    State.limitsNow { State.reset with
      pending := p, choice := c, slitter := sl, heat := h, gov := Governor.resetWith estop, link := l, notices := u } =
        Limits.reset := rfl

/-- Settles O5. -/
theorem powerOnSetsResetValues : Obligations.PowerOnSetsResetValues := by
  refine ⟨fun a b estop pressure s => ?_, rfl, rfl, rfl, rfl⟩
  have quiet (u : Notices) (g : Bool) : State.quietEnd { State.reset with
      pending := s.pending, choice := s.choice, heat := Heat.resetWith pressure, gov := Governor.resetWith g,
      link := Link.resetWith (rateOf a b), notices := u } = State.offerNotice { State.reset with
      pending := s.pending, choice := s.choice, heat := Heat.resetWith pressure, gov := Governor.resetWith g,
      link := Link.resetWith (rateOf a b), notices := u } :=
    congrArg State.offerNotice (refreshLimits_of_limitsNow (limitsNow_reset _ _ _ _ _ _ _))
  show s.run (fun t => t.powerOn a b estop pressure) = _
  cases estop with
  | false =>
    rw [run_quiet _ _ rfl]
    exact congrArg Host.Outcome.next (quiet _ _)
  | true =>
    rw [run_quiet _ _ rfl]
    exact congrArg Host.Outcome.next (quiet _ _)

/-- Settles O6. -/
theorem resetPartKeepsLinkAndHeads : Obligations.ResetPartKeepsLinkAndHeads := by
  intro tag s
  show (_ → s.run (State.serve 0x06 tag State.reqResetPart) = _) ∧ (_ → _ → s.run (State.serve 0x06 tag State.reqResetPart) = _)
  refine ⟨fun h => ?_, fun hr hs => ?_⟩
  · exact run_just (by decide) (if_pos h) rfl
  · have owner : (s.heard 0x06 tag).reqResetPart = ((s.heard 0x06 tag).resetPart, .okWith (u8 (Mode.code .unconfigured))) :=
      if_neg (fun h => h.elim hr hs)
    rw [run_okWith (by decide) owner rfl]
    exact congrArg Host.Outcome.next (refreshLimits_of_limitsNow (limitsNow_reset _ _ _ _ _ _ _))

/-- Settles O7. -/
theorem resetStateHoldsInvariants : Obligations.ResetStateHoldsInvariants := by
  have regs (p : Purpose) : State.reset.regs.get p = none := by
    cases p with
    | approach n => exact tget_tfill _ n
    | spliceTrigger n => exact tget_tfill _ n
    | zone z => exact tget_tfill _ z
    | glue u => exact tget_tfill _ u
    | _ => rfl
  have stand (n : Stand) : State.reset.stand n = StandRec.reset := tget_tfill _ _
  have spl (n : Stand) : State.reset.spl n = SpliceRec.reset := tget_tfill _ _
  have unit (u : GlueUnit) : State.reset.unit u = GlueRec.reset := tget_tfill _ _
  have waiting : ∀ i, tget State.reset.notices.waiting i = decide (i = srcLineMode) := by decide
  refine ⟨rfl, rfl, rfl, regs, rfl, rfl, rfl, rfl, fun c => tget_tfill _ _, rfl, rfl, rfl, rfl, rfl, rfl, rfl, rfl, rfl, rfl, rfl,
    fun n => ⟨stand n, by rw [spl n]; rfl, by rw [spl n]; rfl⟩, rfl, fun c => tget_tfill _ _, rfl, fun z => tget_tfill _ _, unit,
    fun u => by rw [unit u]; exact ⟨rfl, rfl, rfl⟩, rfl, rfl, rfl, rfl, rfl, rfl, rfl, rfl, waiting, State.SpeedOk.reset, ?_,
    keptByMap_SpansOk.empty _ rfl, keptByMap_MapInOrder.empty _ rfl, State.RollsOk.reset, State.HeatOk.reset false rfl⟩
  exact (roomOk_iff _).mpr ⟨keptByMap_MapRoom.empty _ rfl, State.BookRoom.reset rfl, State.OutRoom.reset rfl,
    State.QueueRoom.reset (r := .r115200) rfl⟩

end Sys2Proof.Machine

/-! The encoder, the Governor's period and the grid (O14, O16 to O18, O21). -/

namespace Sys2Proof.Machine

/-! ### Events that fall together (log 3, log 4) -/

/-- Events posted together join the waiting ones in some order. -/
theorem State.postTogether_eq (s : State) (es : List Ev) :
    ∃ (l : List Ev) (c : Nat), l.Perm es ∧ s.postTogether es = { s with inbox := s.inbox ++ l, choice := c } := by
  unfold State.postTogether
  split
  · exact ⟨[], s.choice, .refl _, by simp⟩
  · exact ⟨_, s.choice, .refl _, rfl⟩
  · exact ⟨_, _, pickOrder_perm _ _ _, rfl⟩

/-! ### Registrations (R2) -/

@[simp] theorem Regs.get_put_same (r : Regs) (p : Purpose) (v : Option Pos) : (r.put p v).get p = v := by
  cases p <;> simp [Regs.put, Regs.get]

theorem Regs.get_put_other (r : Regs) {p q : Purpose} (v : Option Pos) (h : q ≠ p) : (r.put p v).get q = r.get q := by
  cases p <;> cases q <;> simp_all [Regs.put, Regs.get, tget_tset]

theorem mem_allPurposes (p : Purpose) : p ∈ allPurposes := by
  cases p with
  | approach n => revert n; decide
  | spliceTrigger n => revert n; decide
  | zone z => revert z; decide
  | glue u => revert u; decide
  | _ => decide

/-- R2: the registration for a purpose once E's have been removed that it has reached. -/
theorem State.get_unreachedRegs (s : State) (p : Purpose) :
    s.unreachedRegs.get p =
      match s.regs.get p with
      | some q => if isReached s.tracker.pos q then none else some q
      | none => none := by
  have fold (l : List Purpose) (r : Regs) :
      (l.foldl (fun r p =>
        match s.regs.get p with
        | some q => if isReached s.tracker.pos q then r.put p none else r
        | none => r) r).get p =
        if p ∈ l ∧ (∃ q, s.regs.get p = some q ∧ isReached s.tracker.pos q = true) then none else r.get p := by
    induction l generalizing r with
    | nil => simp
    | cons x l ih =>
      rw [List.foldl_cons, ih]
      by_cases hx : p = x
      · subst hx
        cases hq : s.regs.get p with
        | none => simp
        | some q => by_cases hr : isReached s.tracker.pos q = true <;> simp [hr]
      · have same : (match s.regs.get x with
            | some q => if isReached s.tracker.pos q = true then r.put x none else r
            | none => r).get p = r.get p := by
          (repeat' split)
          · exact r.get_put_other none hx
          · rfl
          · rfl
        rw [same]
        simp [hx]
  unfold State.unreachedRegs
  refine (fold allPurposes s.regs).trans ?_
  cases hq : s.regs.get p with
  | none => simp
  | some q => by_cases hr : isReached s.tracker.pos q = true <;> simp [hr, mem_allPurposes]

/-! ### Drawing (R98) -/

theorem State.stand_drawStand_other {n k : Stand} (s : State) (h : k ≠ n) : (State.drawStand n s).stand k = s.stand k := by
  unfold State.drawStand
  (repeat' split)
  · rfl
  · rfl
  · exact State.stand_setStand_other _ _ h

/-- R98: what a step of E makes of a stand. -/
theorem State.stand_drawStand (n : Stand) (s : State) :
    (State.drawStand n s).stand n =
      match (s.stand n).running, (s.stand n).runningRoll with
      | some m, some x =>
        if s.cpm * 1000 ≤ x.acc + (s.standCfg n).takeup then s.stand n
        else (s.stand n).setArm m (some { x with acc := x.acc + (s.standCfg n).takeup })
      | _, _ => s.stand n := by
  unfold State.drawStand
  cases hm : (s.stand n).running with
  | none => rfl
  | some m =>
    obtain ⟨x, hx, -⟩ := (StandRec.runsOn_iff _ _).mp (StandRec.runsOn_of_running hm)
    have hroll : (s.stand n).runningRoll = some x := by rw [StandRec.runningRoll, hm, Option.bind_some, hx]
    simp only [State.dueDecrement, hroll, State.drawUnit, State.drawn]
    split
    · next hdue => rw [if_pos (of_decide_eq_true hdue)]
    · next hdue =>
      rw [if_neg (fun h => hdue (decide_eq_true h)), State.updStand, State.stand_setStand, StandRec.updArm, hx]
      rfl

theorem State.stand_drawStand_congr {n : Stand} {s t : State} (h : t.stand n = s.stand n) (hc : t.cfg = s.cfg) :
    (State.drawStand n t).stand n = (State.drawStand n s).stand n := by
  have cpm : t.cpm = s.cpm := by rw [State.cpm, State.cpm, hc]
  have cfg : t.standCfg n = s.standCfg n := by rw [State.standCfg, State.standCfg, hc]
  rw [State.stand_drawStand, State.stand_drawStand, h, cpm, cfg]

theorem State.stand_each_drawStand {l : List Stand} (hl : l.Nodup) (n : Stand) (s : State) :
    (s.each l State.drawStand).stand n = if n ∈ l then (State.drawStand n s).stand n else s.stand n := by
  unfold State.each
  induction l generalizing s with
  | nil => simp
  | cons x l ih =>
    obtain ⟨hx, hl⟩ := List.nodup_cons.mp hl
    rw [List.foldl_cons, ih hl]
    by_cases h : n = x
    · subst h
      simp [hx]
    · simp only [List.mem_cons, h, false_or, State.stand_drawStand_other s h]
      rw [State.stand_drawStand_congr (State.stand_drawStand_other s h)
        (cfg_of_erase (erase_drawStand x s (F := [.stands]) (by decide)) (by decide))]

theorem mapTurn_eq_self {e : Pos} {l : List Span} (h : ∀ x ∈ l, x.turned e = false) : mapTurn e l = l := by
  have none_turned : l.filter (Span.turned e) = [] := List.filter_eq_nil_iff.mpr fun x hx => by simp [h x hx]
  have all_stay : l.filter (fun x => !x.turned e) = l := List.filter_eq_self.mpr fun x hx => by simp [h x hx]
  rw [mapTurn, none_turned, all_stay, List.append_nil]

/-- Settles O14. -/
theorem forwardStepHandsOverCrossings : Obligations.ForwardStepHandsOverCrossings := by
  intro s hb
  let s0 : State := { s with inbox := [] }
  let s1 : State := { s0 with
    tracker := { s.tracker with pos := s.tracker.pos + 1, window := s.tracker.window + 1 },
    map := { s.map with spans := mapTurn (s.tracker.pos + 1) s.map.spans } }
  let s2 : State := s1.each allStands State.drawStand
  have drawn : s2 = { s1 with stands := s2.stands } :=
    eq_patch_of_erase (erase_each (F := [.stands]) _ _ s1 (fun n t => erase_drawStand n t (by decide)))
  obtain ⟨l, c, perm, posted⟩ := ({ s2 with regs := s2.unreachedRegs } : State).postTogether_eq
    (s2.reachedCrossings ++ (allStands.filter s1.dueDecrement).map Ev.decrement ++ (if s.glue.motion then [] else [.motionSet]))
  refine ⟨s2.stands, s2.unreachedRegs, l, c, ?_, ?_, mapTurn_perm _ _, fun h => mapTurn_eq_self fun x hx => ?_, fun p => ?_, fun n => ?_⟩
  · rw [exec_forwardCount]
    have moved : s0.takeForward = { s with
        tracker := { s.tracker with pos := s.tracker.pos + 1, window := s.tracker.window + 1 },
        map := { s.map with spans := mapTurn (s.tracker.pos + 1) s.map.spans }, stands := s2.stands, regs := s2.unreachedRegs,
        inbox := l, choice := c } := by
      rw [State.takeForward, if_neg (by simp [s0, hb])]
      refine posted.trans ?_
      rw [drawn]
      rfl
    rw [← moved]
  · have crossed : s2.reachedCrossings = allPurposes.filterMap (fun p => match s.regs.get p with
        | some q => if ((s.tracker.pos + 1) - q).toNat < 2147483648 then some (Ev.crossing p q) else none
        | none => none) := by
      rw [drawn]
      simp only [State.reachedCrossings, isReached, decide_eq_true_eq]
      rfl
    exact perm.trans (.of_eq (by rw [crossed]; rfl))
  · refine decide_eq_false fun hx' => h x hx ?_
    bv_omega
  · refine (State.get_unreachedRegs s2 p).trans ?_
    rw [drawn]
    simp only [isReached, decide_eq_true_eq]
    rfl
  · refine (State.stand_each_drawStand (by decide) n s1).trans ?_
    rw [if_pos (by revert n; decide), State.stand_drawStand]
    rfl

/-! ### The Governor -/

/-- R180: no target passes an active limit. -/
theorem foldl_min_le (l : List Nat) (a : Nat) : l.foldl min a ≤ a ∧ ∀ v ∈ l, l.foldl min a ≤ v := by
  induction l generalizing a with
  | nil => simp
  | cons x l ih =>
    obtain ⟨ha, hl⟩ := ih (min a x)
    refine ⟨ha.trans (min_le_left _ _), fun v hv => ?_⟩
    rcases List.mem_cons.mp hv with rfl | hv
    · exact ha.trans (min_le_right _ _)
    · exact hl v hv

theorem foldl_min_mem (l : List Nat) (a : Nat) : l.foldl min a = a ∨ l.foldl min a ∈ l := by
  induction l generalizing a with
  | nil => simp
  | cons x l ih =>
    rcases ih (min a x) with h | h
    · rw [List.foldl_cons, h]
      rcases min_choice a x with e | e <;> simp [e]
    · exact .inr (List.mem_cons_of_mem _ h)

theorem Limits.requested_mem (l : Limits) : (LimitSource.requested, some l.requested) ∈ l.list := by
  simp [Limits.list]

theorem Limits.target_le (l : Limits) {x : LimitSource × Option Nat} (hx : x ∈ l.list) {v : Nat} (hv : x.2 = some v) :
    l.target ≤ v := (foldl_min_le _ _).2 v (List.mem_filterMap.mpr ⟨x, hx, hv⟩)

/-- R180: the target is one of the active limits. -/
theorem Limits.exists_target (l : Limits) : ∃ x ∈ l.list, x.2 = some l.target := by
  rcases foldl_min_mem (l.list.filterMap (·.2)) l.requested with h | h
  · exact ⟨_, l.requested_mem, congrArg some h.symm⟩
  · exact List.mem_filterMap.mp h

/-- Settles O18. -/
theorem targetIsLowestLimit : Obligations.TargetIsLowestLimit := by
  intro l
  refine ⟨fun x hx v hv => l.target_le hx hv, ?_⟩
  obtain ⟨y, hy, hv⟩ := l.exists_target
  cases hf : l.list.find? (fun x => decide (x.2 = some l.target)) with
  | none => simpa [hv] using List.find?_eq_none.mp hf y hy
  | some x =>
    obtain ⟨hx, before, after, hl, hbefore⟩ := List.find?_eq_some_iff_append.mp hf
    refine ⟨before, x, after, hl, by simpa using hx, by simp [Limits.source, hf], fun z hz => ?_⟩
    simpa using hbefore z hz

/-- Settles O16. -/
theorem governorPeriodPublishes : Obligations.GovernorPeriodPublishes := by
  refine ⟨fun s => ⟨pickOrder 3 s.choice [.publish, .govStep, .glueTargets], pickOrder_perm _ _ _, rfl⟩, fun s => ?_⟩
  have he : (s.handle .publish).erase [.tracker, .splice, .glue, .map, .notices, .inbox, .choice] = s.erase _ :=
    erase_takePublish s (by decide)
  refine ⟨?_, eq_patch_of_erase he⟩
  have published := tracker_of_erase (erase_gluePublish
    ({ s with tracker := { s.tracker with measured := s.windowSpeed, window := 0 } } : State).pasteTests
    (F := [.glue, .map, .notices, .inbox, .choice]) (by decide)) (by decide)
  have tested := tracker_of_erase (erase_pasteTests
    { s with tracker := { s.tracker with measured := s.windowSpeed, window := 0 } } (F := [.splice]) (by decide)) (by decide)
  exact published.trans tested

theorem markIf_gov (s : State) (b : Bool) (i : NoticeSource) : (s.markIf b i).gov = s.gov := by cases b <;> rfl
theorem markIf_tracker (s : State) (b : Bool) (i : NoticeSource) : (s.markIf b i).tracker = s.tracker := by cases b <;> rfl

/-- R181: the Governor once its step has found a target and moved the reference. -/
def State.stepped (s : State) : Governor :=
  { s.gov with
    target := s.findTarget.1, source := s.findTarget.2, reference := s.stepReference s.findTarget.1 }

theorem State.takeGovStep_eq (s : State) :
    ∃ u : State, s.takeGovStep = u.endStop ∧ u.gov = s.stepped ∧ u.tracker = s.tracker ∧ u.inbox = s.inbox :=
  ⟨({ s with gov := s.stepped } : State).markIf (!decide (s.gov.source = s.findTarget.2)) srcLimit, rfl, markIf_gov _ _ _,
    markIf_tracker _ _ _, markIf_inbox _ _ _⟩

/-- R182: a step that ends a stop. -/
theorem State.endStop_of_atRest {s : State} (h : s.gov.mode = .stopping ∧ s.gov.reference = 0 ∧ s.tracker.measured = 0) :
    s.endStop.inbox = s.inbox ++ [.modeEntry .stopping (if s.gov.fast then .halted else .stopped)] ∧
      s.endStop.gov = { s.gov with
        fast := false, runOut := false, mode := if s.gov.fast then .halted else .stopped,
        modeEntries := (s.gov.modeEntries + 1) % 256 } := by
  rw [State.endStop, if_pos h]
  cases hf : s.gov.fast with
  | true => exact ⟨congrArg (fun m => s.inbox ++ [Ev.modeEntry m .halted]) h.1, rfl⟩
  | false =>
    refine ⟨congrArg (fun m => s.inbox ++ [Ev.modeEntry m .stopped]) h.1, ?_⟩
    exact congrArg (fun b => { s.gov with
      fast := b, runOut := false, mode := .stopped, modeEntries := (s.gov.modeEntries + 1) % 256 }) hf

/-- R181: a step that does not end a stop. -/
theorem State.takeGovStep_of_not_atRest {s : State}
    (h : ¬(s.gov.mode = .stopping ∧ s.stepReference s.findTarget.1 = 0 ∧ s.tracker.measured = 0)) :
    s.takeGovStep.inbox = s.inbox ∧ s.takeGovStep.gov = s.stepped := by
  obtain ⟨u, hu, hg, ht, hi⟩ := s.takeGovStep_eq
  rw [hu, State.endStop, if_neg (by rw [hg, ht]; exact h)]
  exact ⟨hi, hg⟩

/-- R182: a step that ends a stop. -/
theorem State.takeGovStep_of_atRest {s : State} (hmode : s.gov.mode = .stopping) (href : s.stepReference s.findTarget.1 = 0)
    (hm : s.tracker.measured = 0) :
    s.takeGovStep.inbox = s.inbox ++ [.modeEntry .stopping (if s.gov.fast then .halted else .stopped)] ∧
      s.takeGovStep.gov = { s.stepped with
        fast := false, runOut := false, mode := if s.gov.fast then .halted else .stopped,
        modeEntries := (s.gov.modeEntries + 1) % 256 } := by
  obtain ⟨u, hu, hg, ht, hi⟩ := s.takeGovStep_eq
  obtain ⟨ended, gov⟩ := State.endStop_of_atRest (s := u) (by rw [hg, ht]; exact ⟨hmode, href, hm⟩)
  rw [hu, ended, gov, hg, hi]
  exact ⟨rfl, rfl⟩

/-- R181, R182: what the step makes of the Governor while the line stops. -/
theorem State.stepped_stopping {s : State} (h : s.gov.mode = .stopping) :
    s.stepped = { s.gov with
      target := 0, source := if s.gov.fast then .fast else .stop,
      reference := if s.gov.fast then s.gov.reference - s.govCfg.fastStep else s.gov.reference - s.govCfg.decelStep } := by
  simp [State.stepped, State.findTarget, State.stepReference, h]

theorem State.stepped_running {s : State} (h : s.gov.mode = .running) :
    s.stepped = { s.gov with
      target := s.limits.target, source := s.limits.source,
      reference :=
        if s.gov.reference < s.limits.target then min s.limits.target (s.gov.reference + s.govCfg.accelStep)
        else max s.limits.target (s.gov.reference - s.govCfg.decelStep) } := by
  simp [State.stepped, State.findTarget, State.stepReference, h]

theorem State.stepped_rest {s : State} (hr : s.gov.mode ≠ .running) (hs : s.gov.mode ≠ .stopping) :
    s.stepped = { s.gov with target := 0, source := .none, reference := 0 } := by
  simp [State.stepped, State.findTarget, State.stepReference]

/-- Settles O17. -/
theorem governorStepMovesReference : Obligations.GovernorStepMovesReference := by
  intro s g t slowed
  refine ⟨eq_patch_of_erase (erase_takeGovStep (F := [.gov, .notices, .inbox]) s (by decide)), fun h => ?_, fun h h0 hm => ?_,
    fun h h0 => ?_, fun hr hs => ?_⟩
  · obtain ⟨hi, hg⟩ := State.takeGovStep_of_not_atRest (s := s) (fun hc => nomatch h.symm.trans hc.1)
    exact ⟨hi, hg.trans (State.stepped_running h)⟩
  · have step := State.stepped_stopping h
    have hstep : s.stepReference s.findTarget.1 = slowed := congrArg Governor.reference step
    obtain ⟨hi, hg⟩ := State.takeGovStep_of_atRest h (hstep.trans h0) hm
    refine ⟨hi, hg.trans ?_⟩
    rw [step]
    exact congrArg (fun r => { g with
      target := 0, source := if g.fast then .fast else .stop, reference := r, fast := false, runOut := false,
      mode := if g.fast then .halted else .stopped, modeEntries := (g.modeEntries + 1) % 256 }) h0
  · have step := State.stepped_stopping h
    have hstep : s.stepReference s.findTarget.1 = slowed := congrArg Governor.reference step
    obtain ⟨hi, hg⟩ := State.takeGovStep_of_not_atRest (s := s) (fun hc => h0 ⟨hstep ▸ hc.2.1, hc.2.2⟩)
    exact ⟨hi, hg.trans step⟩
  · obtain ⟨hi, hg⟩ := State.takeGovStep_of_not_atRest (s := s) (fun hc => hs hc.1)
    exact ⟨hi, hg.trans (State.stepped_rest hr hs)⟩

/-! ### The grid -/

/-- R48: one carry goes on from cut j to cut j + 1. -/
theorem carry_step (P j : Nat) :
    (j * P / 10000 + (carry (P / 10000) (P % 10000) (j * P % 10000)).1, (carry (P / 10000) (P % 10000) (j * P % 10000)).2) =
      ((j + 1) * P / 10000, (j + 1) * P % 10000) := by
  have e : (j + 1) * P = j * P + P := Nat.succ_mul j P
  rw [e]
  generalize j * P = q
  unfold carry
  split <;> simp only [Prod.mk.injEq] <;> omega

/-- Settles O21, by induction on the number of carries. -/
theorem gridCarryKeepsGrid : Obligations.GridCarryKeepsGrid := by
  intro P j
  induction j with
  | zero => simp
  | succ j ih =>
    rw [Function.iterate_succ_apply', ih]
    exact carry_step P j

end Sys2Proof.Machine

/-! The Reel Stands: what their operations do to a stand, and the statements about them (O15, O34 to O38). -/

namespace Sys2Proof.Machine

/-! ### Numbers and codes of stands and arms (R193) -/

@[simp] theorem standOfNumber_number (n : Stand) : Stand.ofNumber (Stand.number n) = some n := by
  revert n
  decide

theorem standOfNumber_of_not {k : Nat} (h : ¬(1 ≤ k ∧ k ≤ 7)) : Stand.ofNumber k = none := dif_neg h

@[simp] theorem armOfCode_code (m : Arm) : Arm.ofCode (Arm.code m) = some m := by cases m <;> rfl

theorem armOfCode_of_lt {a : Nat} (h : 1 < a) : Arm.ofCode a = none := by
  obtain ⟨b, rfl⟩ := Nat.exists_eq_add_of_le h
  rw [Nat.add_comm]
  rfl

/-! ### Replacing a stand -/

theorem mem_allStands (n : Stand) : n ∈ allStands := by
  revert n
  decide

@[simp] theorem State.setStand_setStand (s : State) (n : Stand) (r q : StandRec) : (s.setStand n r).setStand n q = s.setStand n q := by
  simp [State.setStand, tset]

theorem State.updStand_eq (s : State) (n : Stand) (f : StandRec → StandRec) : s.updStand n f = s.setStand n (f (s.stand n)) := rfl

theorem State.stand_updStand (s : State) (n : Stand) (f : StandRec → StandRec) : (s.updStand n f).stand n = f (s.stand n) := by
  rw [State.updStand_eq, State.stand_setStand]

theorem State.stand_updStand_other (s : State) {n k : Stand} (f : StandRec → StandRec) (h : k ≠ n) :
    (s.updStand n f).stand k = s.stand k := State.stand_setStand_other _ _ h

@[simp] theorem State.stand_post (s : State) (e : Ev) (n : Stand) : (s.post e).stand n = s.stand n := rfl

@[simp] theorem State.standCfg_setStand (s : State) (n k : Stand) (r : StandRec) : (s.setStand n r).standCfg k = s.standCfg k := rfl

@[simp] theorem State.lineMoves_setStand (s : State) (n : Stand) (r : StandRec) : (s.setStand n r).lineMoves = s.lineMoves := rfl

/-! ### The STANDS condition (R110) -/

/-- R110: where one stand alone changed, its marks alone tell. -/
theorem State.standsMarked_eq {s t : State} {n : Stand} (h : ∀ k : Stand, k ≠ n → t.stand k = s.stand k) :
    s.standsMarked t = t.markIf (!decide ((s.stand n).marks = (t.stand n).marks)) srcStands := by
  have only : allStands.any (fun k => !decide ((s.stand k).marks = (t.stand k).marks)) =
      !decide ((s.stand n).marks = (t.stand n).marks) := by
    rw [Bool.eq_iff_iff, List.any_eq_true]
    constructor
    · rintro ⟨k, -, hk⟩
      by_cases hkn : k = n
      · exact hkn ▸ hk
      · simp [h k hkn] at hk
    · exact fun hn => ⟨n, mem_allStands n, hn⟩
  rw [State.standsMarked, only]

theorem State.standsMarked_self (s : State) : s.standsMarked s = s := by
  rw [State.standsMarked_eq (n := 0) (fun _ _ => rfl), decide_eq_true rfl]
  rfl

theorem StandRec.marks_setArm (r : StandRec) (m : Arm) (x : Option Roll) :
    r.marks = (r.setArm m x).marks ↔ (r.arm m).map (·.state) = x.map (·.state) := by
  cases m <;> simp [StandRec.marks, StandRec.setArm, StandRec.arm]

/-! ### The running arm -/

theorem StandRec.arm_of_running {r : StandRec} {m : Arm} (h : r.running = some m) :
    ∃ x, r.arm m = some x ∧ x.state = .running := (StandRec.runsOn_iff _ _).mp (StandRec.runsOn_of_running h)

theorem StandRec.runningRoll_of_running {r : StandRec} {m : Arm} (h : r.running = some m) : r.runningRoll = r.arm m := by
  rw [StandRec.runningRoll, h, Option.bind_some]

/-! ### Expiry (R100) -/

/-- R100: the stand that raises expiry. -/
theorem State.raiseExpiry_of {s : State} {n : Stand} (hd : (s.stand n).expiry = .due) (hf : (s.stand n).fault = none) :
    s.raiseExpiry n =
      if s.lineMoves then (s.setStand n { s.stand n with expiry := .raised }).post (.expiry n) else s := by
  cases hm : s.lineMoves <;> simp [State.raiseExpiry, hd, hf, hm, State.updStand_eq]

/-- R100: the expiry test of a stand with a RUNNING roll. -/
theorem State.testExpiry_eq {s : State} {n : Stand} {x : Roll} (hx : (s.stand n).runningRoll = some x) :
    s.testExpiry n =
      if x.remaining ≤ (s.standCfg n).reserve ∧ (s.stand n).fault = none ∧ (s.stand n).expiry = .notDue then
        (if s.lineMoves then (s.setStand n { s.stand n with expiry := .raised }).post (.expiry n)
        else s.setStand n { s.stand n with expiry := .due })
      else s := by
  simp only [State.testExpiry, hx]
  split
  · next h =>
    rw [State.raiseExpiry_of (by rw [State.stand_updStand]) (by rw [State.stand_updStand]; exact h.2.1), State.stand_updStand,
      State.updStand_eq, State.setStand_setStand]
    rfl
  · rfl

/-! ### The checks of a stand request (section 6.7, log 48) -/

theorem State.standCheck_of_not {k a : Nat} (s : State) (h : ¬(1 ≤ k ∧ k ≤ 7 ∧ a ≤ 1)) :
    s.standCheck k a = .error .badValue := by
  unfold State.standCheck
  by_cases hk : 1 ≤ k ∧ k ≤ 7
  · rw [armOfCode_of_lt (by omega)]
    cases Stand.ofNumber k <;> rfl
  · rw [standOfNumber_of_not hk]

theorem State.standCheck_number (s : State) (n : Stand) (m : Arm) :
    s.standCheck (Stand.number n) (Arm.code m) =
      if s.gov.mode = .unconfigured then .error .wrongMode else .ok (n, m) := by
  simp only [State.standCheck, standOfNumber_number, armOfCode_code]

/-! ### LOAD_ROLL (R97, R104) -/

theorem State.standsMarked_updStand (s : State) (n : Stand) (f : StandRec → StandRec) :
    s.standsMarked (s.updStand n f) =
      (s.updStand n f).markIf (!decide ((s.stand n).marks = (f (s.stand n)).marks)) srcStands := by
  rw [State.standsMarked_eq (n := n) (fun k hk => s.stand_updStand_other f hk), State.stand_updStand]

/-- R110: a roll put on an arm, or taken off it, marks STANDS when the state on the arm changes. -/
theorem State.standsMarked_setArm {s : State} {n : Stand} {m : Arm} {x : Option Roll}
    (h : ((s.stand n).arm m).map (·.state) ≠ x.map (·.state)) :
    s.standsMarked (s.updStand n (fun r => r.setArm m x)) = (s.setStand n ((s.stand n).setArm m x)).mark srcStands := by
  rw [State.standsMarked_updStand, decide_eq_false (fun e => h ((StandRec.marks_setArm _ _ _).mp e))]
  rfl

theorem State.reqLoadRoll_number (s : State) (n : Stand) (m : Arm) (r : RollSpec) :
    s.reqLoadRoll (Stand.number n) (Arm.code m) r =
      if s.gov.mode = .unconfigured then (s, .just .wrongMode)
      else if RollSpec.inRange r = false then (s, .just .badValue)
      else if s.rollHeld r.id = true then (s, .just .duplicate)
      else if ((s.stand n).arm m).isSome = true then (s, .just .busy)
      else
        ((s.setStand n ((s.stand n).setArm m (some (RollSpec.loaded r)))).mark srcStands,
          .okWith (u8 (n.val + 1) ++ u8 (Arm.code m) ++ u32 r.id ++ u16 (RollSpec.length r))) := by
  simp only [State.reqLoadRoll, State.standCheck_number]
  by_cases h1 : s.gov.mode = .unconfigured
  · simp only [h1, if_true]
  · simp only [h1, if_false, Bool.not_eq_true']
    refine if_congr .rfl rfl (if_congr .rfl rfl (ite_congr rfl (fun _ => rfl) fun h => Prod.ext ?_ rfl))
    refine State.standsMarked_setArm ?_
    rw [Option.not_isSome_iff_eq_none.mp h]
    nofun

/-- Settles O34. -/
theorem loadRollPutsRollOnArm : Obligations.LoadRollPutsRollOnArm := by
  intro tag s r h
  refine ⟨fun k a hka => ?_, fun n m => ?_⟩
  · show s.run (State.serve 0x38 tag (fun t => t.reqLoadRoll k a r)) = _
    exact run_just (by decide) (by simp only [State.reqLoadRoll, State.standCheck_of_not _ hka]; rfl) rfl
  · show s.run (State.serve 0x38 tag (fun t => t.reqLoadRoll (Stand.number n) (Arm.code m) r)) = _
    have owner := h.reqLoadRoll_number n m r
    split_ifs with h1 h2 h3 h4
    · exact run_just (by decide) (owner.trans (if_pos h1)) rfl
    · exact run_just (by decide) (owner.trans ((if_neg h1).trans (if_pos h2))) rfl
    · exact run_just (by decide) (owner.trans ((if_neg h1).trans ((if_neg h2).trans (if_pos h3)))) rfl
    · exact run_just (by decide) (owner.trans ((if_neg h1).trans ((if_neg h2).trans ((if_neg h3).trans (if_pos h4))))) rfl
    · exact run_okWith (by decide)
        (owner.trans ((if_neg h1).trans ((if_neg h2).trans ((if_neg h3).trans (if_neg h4))))) rfl

/-! ### MARK_READY and PREPARED (R105) -/

theorem State.makeReady_loaded {s : State} {n : Stand} {m : Arm} {x : Roll} (hx : (s.stand n).arm m = some x)
    (hl : x.state = .loaded) :
    s.makeReady n m =
      ((s.setStand n ((s.stand n).setArm m (some { x with state := .ready }))).post (.rollReady n)).mark srcStands := by
  simp only [State.makeReady, hx, hl, if_true]
  rw [State.standsMarked_eq (n := n) (fun k hk => by rw [State.stand_post, State.stand_updStand_other _ _ hk]), State.stand_post,
    State.stand_updStand, decide_eq_false]
  · rfl
  · rw [StandRec.marks_setArm, hx]
    simp [hl]

theorem State.makeReady_of_not {s : State} {n : Stand} {m : Arm} (h : ∀ x, (s.stand n).arm m = some x → x.state ≠ .loaded) :
    s.makeReady n m = s := by
  unfold State.makeReady
  split
  · next x hx => exact if_neg (h x hx)
  · rfl

theorem State.reqMarkReady_number (s : State) (n : Stand) (m : Arm) :
    s.reqMarkReady (Stand.number n) (Arm.code m) =
      if s.gov.mode = .unconfigured then (s, .just .wrongMode)
      else match (s.stand n).arm m with
        | none => (s, .just .notReady)
        | some x =>
          if x.state = .running ∨ x.state = .expired then (s, .just .wrongMode) else (s.makeReady n m, .just .ok) := by
  simp only [State.reqMarkReady, State.standCheck_number]
  by_cases h : s.gov.mode = .unconfigured
  · simp only [h, if_true]
  · simp only [h, if_false] <;> rfl

/-- Settles O35. -/
theorem markReadyAndPrepared : Obligations.MarkReadyAndPrepared := by
  intro tag s h quiet
  refine ⟨fun k a hka => ?_, fun n => ⟨fun m => ?_, fun hs => ?_, fun m hm => ⟨fun hx => ?_, fun x hx hl => ?_⟩⟩⟩
  · exact run_just (owner := fun t => t.reqMarkReady k a) (by decide)
      (by simp only [State.reqMarkReady, State.standCheck_of_not _ hka]; rfl) rfl
  · have owner := h.reqMarkReady_number n m
    have answers {t : State} {st : Status} (ho : h.reqMarkReady (Stand.number n) (Arm.code m) = (t, .just st)) :
        exec (.markReady tag (Stand.number n) (Arm.code m)) s = .next (t.answered 0x39 tag st []).finish :=
      run_just_finish (owner := fun t => t.reqMarkReady (Stand.number n) (Arm.code m)) (by decide) ho
    have refuses {st : Status} (ho : h.reqMarkReady (Stand.number n) (Arm.code m) = (h, .just st)) :
        exec (.markReady tag (Stand.number n) (Arm.code m)) s = .next (h.answered 0x39 tag st []).refreshLimits :=
      run_just (owner := fun t => t.reqMarkReady (Stand.number n) (Arm.code m)) (by decide) ho rfl
    refine ⟨fun hu => refuses (owner.trans (if_pos hu)), fun hu hx => refuses ?_,
      fun x hu hx => ⟨fun hr => refuses ?_, fun hr => refuses ?_, fun hl => ?_⟩⟩
    · exact owner.trans ((if_neg hu).trans (by rw [show (h.stand n).arm m = none from hx]))
    · exact owner.trans ((if_neg hu).trans (by rw [show (h.stand n).arm m = some x from hx]; exact if_pos hr))
    · have kept : h.makeReady n m = h := State.makeReady_of_not fun y hy => by
        cases hx.symm.trans hy
        simp [hr]
      refine owner.trans ((if_neg hu).trans ?_)
      rw [show (h.stand n).arm m = some x from hx, kept]
      exact if_neg (by simp [hr])
    · refine (answers (t := h.makeReady n m) (owner.trans ((if_neg hu).trans ?_))).trans
        (congrArg (fun u => Host.Outcome.next (u.answered 0x39 tag .ok []).finish) (State.makeReady_loaded (s := h) hx hl))
      rw [show (h.stand n).arm m = some x from hx]
      exact if_neg (by simp [hl])
  · have kept : quiet.takePrepared n = quiet := by rw [State.takePrepared, show (quiet.stand n).standby = none from hs]
    refine (run_quiet s (fun t => t.takePrepared n) (by rw [kept])).trans ?_
    rw [kept]
  · have kept : quiet.takePrepared n = quiet := by
      rw [State.takePrepared, show (quiet.stand n).standby = some m from hm]
      exact State.makeReady_of_not (s := quiet) hx
    refine (run_quiet s (fun t => t.takePrepared n) (by rw [kept])).trans ?_
    rw [kept]
  · have ready : quiet.takePrepared n = quiet.makeReady n m := by
      rw [State.takePrepared, show (quiet.stand n).standby = some m from hm]
    exact congrArg (fun u => Host.Outcome.next u.finish) (ready.trans (State.makeReady_loaded (s := quiet) hx hl))

/-! ### UNLOAD_ROLL and THREAD (R106, R107) -/

theorem State.reqUnloadRoll_number (s : State) (n : Stand) (m : Arm) :
    s.reqUnloadRoll (Stand.number n) (Arm.code m) =
      if s.gov.mode = .unconfigured then (s, .just .wrongMode)
      else match (s.stand n).arm m with
        | none => (s, .just .notFound)
        | some x =>
          if x.state = .running then (s, .just .wrongMode)
          else if x.state = .ready ∧ (s.stand n).standby = some m ∧ (s.spl n).seq.isSome = true then (s, .just .inUse)
          else ((s.setStand n ((s.stand n).setArm m none)).mark srcStands, .just .ok) := by
  simp only [State.reqUnloadRoll, State.standCheck_number]
  by_cases h : s.gov.mode = .unconfigured
  · simp only [h, if_true]
  · simp only [h, if_false]
    cases hx : (s.stand n).arm m with
    | none => rfl
    | some x =>
      refine if_congr .rfl rfl (if_congr .rfl rfl (congrArg (·, Reply.just .ok) (State.standsMarked_setArm ?_)))
      rw [hx]
      nofun

/-- R107: THREAD in STOPPED tests the new RUNNING roll's expiry, which stays silent. -/
theorem State.freshExpiry_stopped {s : State} {n : Stand} {x : Roll} (hmode : s.gov.mode = .stopped)
    (hx : (s.stand n).runningRoll = some x) :
    s.freshExpiry n = s.setStand n { s.stand n with
      expiry := if x.remaining ≤ (s.standCfg n).reserve ∧ (s.stand n).fault = none then .due else .notDue } := by
  have still : (s.updStand n (fun r => { r with expiry := .notDue })).lineMoves = false := by
    simp [State.lineMoves, State.updStand_eq, State.setStand, hmode]
  rw [State.freshExpiry, State.testExpiry_eq (x := x) (by rw [State.stand_updStand]; exact hx), State.stand_updStand, still]
  simp only [State.updStand_eq, State.setStand_setStand, State.standCfg_setStand, and_true, Bool.false_eq_true, if_false]
  by_cases h : x.remaining ≤ (s.standCfg n).reserve ∧ (s.stand n).fault = none
  · rw [if_pos h, if_pos h]
  · rw [if_neg h, if_neg h]

/-- R107: a roll made RUNNING on a stand with none. -/
theorem StandRec.running_of_run {r : StandRec} {m : Arm} {x : Roll} (h : r.running = none) :
    (r.setArm m (some x.run)).running = some m ∧ (r.setArm m (some x.run)).runningRoll = some x.run := by
  have idle := StandRec.running_eq_none.mp h
  have here : (r.setArm m (some x.run)).runsOn m = true := (StandRec.runsOn_iff _ _).mpr ⟨_, r.arm_setArm_same m _, rfl⟩
  have there : (r.setArm m (some x.run)).runsOn (Arm.other m) = false := by
    rw [← idle (Arm.other m), StandRec.runsOn, StandRec.arm_setArm_other]
    rfl
  have run : (r.setArm m (some x.run)).running = some m := by
    unfold StandRec.running
    cases m with
    | a => rw [if_pos here]
    | b => rw [show Arm.other .b = .a from rfl] at there; rw [there, if_pos here]; rfl
  exact ⟨run, by rw [StandRec.runningRoll_of_running run, StandRec.arm_setArm_same]⟩

theorem State.reqThread_number (s : State) (n : Stand) (m : Arm) :
    s.reqThread (Stand.number n) (Arm.code m) =
      if s.gov.mode ≠ .stopped then (s, .just .wrongMode)
      else if (s.stand n).running.isSome = true then (s, .just .busy)
      else match (s.stand n).arm m with
        | none => (s, .just .notReady)
        | some x =>
          if x.remaining = 0 then (s, .just .notReady)
          else
            ((s.setStand n { (s.stand n).setArm m (some x.run) with
                expiry := if x.remaining ≤ (s.standCfg n).reserve ∧ (s.stand n).fault = none then .due else .notDue }).mark
                srcStands,
              .okWith (u8 (n.val + 1) ++ u8 (Arm.code m) ++ u32 x.spec.id ++ u16 x.remaining)) := by
  simp only [State.reqThread, State.standCheck_number]
  by_cases hu : s.gov.mode = .unconfigured
  · simp only [hu, if_true]
    rfl
  by_cases hmode : s.gov.mode = .stopped
  · simp only [hmode, if_false, ne_eq, not_true_eq_false, reduceCtorEq]
    refine ite_congr rfl (fun _ => rfl) fun hrun => ?_
    cases hx : (s.stand n).arm m with
    | none => rfl
    | some x =>
      refine if_congr .rfl rfl (congrArg (·, _) ?_)
      have idle : (s.stand n).running = none := Option.not_isSome_iff_eq_none.mp hrun
      obtain ⟨-, roll⟩ := StandRec.running_of_run (m := m) (x := x) idle
      have put : (s.stand n).updArm m Roll.run = (s.stand n).setArm m (some x.run) := by rw [StandRec.updArm, hx]; rfl
      have fresh : (s.updStand n (fun r => r.updArm m Roll.run)).freshExpiry n =
          s.setStand n { (s.stand n).setArm m (some x.run) with
            expiry := if x.remaining ≤ (s.standCfg n).reserve ∧ (s.stand n).fault = none then .due else .notDue } := by
        rw [State.freshExpiry_stopped (s := s.updStand n (fun r => r.updArm m Roll.run)) (x := x.run) hmode
          (by rw [State.stand_updStand, put]; exact roll), State.stand_updStand, put,
          State.updStand_eq, State.setStand_setStand]
        simp only [StandRec.fault_setArm]
        rfl
      rw [fresh, State.standsMarked_eq (n := n) (fun k hk => State.stand_setStand_other _ _ hk), State.stand_setStand, decide_eq_false]
      · rfl
      · intro h
        have same := (StandRec.marks_setArm (s.stand n) m (some x.run)).mp h
        rw [hx, Option.map_some, Option.map_some, Option.some_inj] at same
        have runs := (StandRec.runsOn_iff _ m).mpr ⟨x, hx, same⟩
        rw [StandRec.running_eq_none.mp idle m] at runs
        cases runs
  · simp only [hu, hmode, if_false, ne_eq, not_false_eq_true, if_true]

/-- Settles O36. -/
theorem unloadAndThread : Obligations.UnloadAndThread := by
  intro tag s h h'
  refine ⟨fun k a hka => ⟨?_, ?_⟩, fun n m => ⟨?_, ?_⟩⟩
  · exact run_just (owner := fun t => t.reqUnloadRoll k a) (by decide)
      (by simp only [State.reqUnloadRoll, State.standCheck_of_not _ hka]; rfl) rfl
  · exact run_just (owner := fun t => t.reqThread k a) (by decide)
      (by simp only [State.reqThread, State.standCheck_of_not _ hka]; rfl) rfl
  · have owner := h.reqUnloadRoll_number n m
    have answers {t : State} {st : Status} (ht : t.inbox = []) (ho : h.reqUnloadRoll (Stand.number n) (Arm.code m) = (t, .just st)) :
        exec (.unloadRoll tag (Stand.number n) (Arm.code m)) s = .next (t.answered 0x3A tag st []).refreshLimits :=
      run_just (owner := fun t => t.reqUnloadRoll (Stand.number n) (Arm.code m)) (by decide) ho ht
    split_ifs with hu
    · exact answers rfl (owner.trans (if_pos hu))
    · replace owner := owner.trans (if_neg hu)
      cases hx : (s.stand n).arm m with
      | none => exact answers rfl (owner.trans (by rw [show (h.stand n).arm m = none from hx]))
      | some x =>
        rw [show (h.stand n).arm m = some x from hx] at owner
        dsimp only at owner ⊢
        split_ifs with hr hb
        · exact answers rfl (owner.trans (if_pos hr))
        · exact answers rfl (owner.trans ((if_neg hr).trans (if_pos hb)))
        · exact answers rfl (owner.trans ((if_neg hr).trans (if_neg hb)))
  · have owner := h'.reqThread_number n m
    have refuses {st : Status} (ho : h'.reqThread (Stand.number n) (Arm.code m) = (h', .just st)) :
        exec (.thread tag (Stand.number n) (Arm.code m)) s = .next (h'.answered 0x3B tag st []).refreshLimits :=
      run_just (owner := fun t => t.reqThread (Stand.number n) (Arm.code m)) (by decide) ho rfl
    split_ifs with hmode hrun
    · exact refuses (owner.trans (if_pos hmode))
    · exact refuses (owner.trans ((if_neg hmode).trans (if_pos hrun)))
    · replace owner := owner.trans ((if_neg hmode).trans (if_neg hrun))
      cases hx : (s.stand n).arm m with
      | none => exact refuses (owner.trans (by rw [show (h'.stand n).arm m = none from hx]))
      | some x =>
        rw [show (h'.stand n).arm m = some x from hx] at owner
        dsimp only at owner ⊢
        by_cases hr : x.remaining = 0
        · rw [if_pos hr]
          exact refuses (owner.trans (if_pos hr))
        · rw [if_neg hr]
          exact run_okWith (owner := fun t => t.reqThread (Stand.number n) (Arm.code m)) (by decide) (owner.trans (if_neg hr)) rfl

/-! ### Web losses (R102) -/

theorem State.stand_of_stands {s t : State} (h : t.stands = s.stands) (n : Stand) : t.stand n = s.stand n := by
  rw [State.stand, h, State.stand]

theorem State.webLoss_of_running {s : State} {n : Stand} {m : Arm} (c : FaultCause) (h : (s.stand n).running = some m) :
    s.webLoss n c =
      ((((s.updStand n (fun r => { (r.updArm m Roll.spend).faultWith c with breakFlag := true })).closeSpan (.stand n)
        (s.boardAt n)).openSpan .webBreak (.stand n) (s.boardAt n)).post (.webLoss n)).post (.halt n c.halt) := by
  simp only [State.webLoss, h]

theorem State.webLoss_of_none {s : State} {n : Stand} (c : FaultCause) (h : (s.stand n).running = none) : s.webLoss n c = s := by
  simp only [State.webLoss, h]

theorem State.stands_webLoss {s : State} {n : Stand} {m : Arm} (c : FaultCause) (h : (s.stand n).running = some m) :
    (s.webLoss n c).stands =
      (s.updStand n (fun r => { (r.updArm m Roll.spend).faultWith c with breakFlag := true })).stands := by
  rw [State.webLoss_of_running c h]
  exact (stands_of_erase (erase_openSpan _ _ _ _ (F := [.map, .inbox, .choice, .notices]) (by decide)) (by decide)).trans
    (stands_of_erase (erase_closeSpan _ _ _ (F := [.map, .inbox, .choice]) (by decide)) (by decide))

theorem State.stand_webLoss {s : State} {n : Stand} {m : Arm} (c : FaultCause) (h : (s.stand n).running = some m) :
    (s.webLoss n c).stand n = { ((s.stand n).updArm m Roll.spend).faultWith c with breakFlag := true } := by
  rw [State.stand_of_stands (State.stands_webLoss c h), State.stand_updStand]

theorem State.stand_webLoss_other {s : State} {n k : Stand} (c : FaultCause) (hk : k ≠ n) :
    (s.webLoss n c).stand k = s.stand k := by
  cases h : (s.stand n).running with
  | none => rw [State.webLoss_of_none c h]
  | some m => rw [State.stand_of_stands (State.stands_webLoss c h), State.stand_updStand_other _ _ hk]

theorem State.inbox_webLoss {s : State} {n : Stand} {m : Arm} (c : FaultCause) (h : (s.stand n).running = some m) :
    ∃ l, (s.webLoss n c).inbox = l ++ [.webLoss n, .halt n c.halt] := by
  rw [State.webLoss_of_running c h]
  exact ⟨_, by simp only [State.post_inbox, List.append_assoc]; rfl⟩

/-- R102: the roll lost is EXPIRED, with the length it had. -/
theorem State.arm_webLoss {s : State} {n : Stand} {m : Arm} (c : FaultCause) (h : (s.stand n).running = some m) {x : Roll}
    (hx : (s.stand n).arm m = some x) :
    ((s.webLoss n c).stand n).arm m = some { x with state := .expired } := by
  obtain ⟨y, hy, hrun⟩ := StandRec.arm_of_running h
  cases hx.symm.trans hy
  rw [State.stand_webLoss c h]
  show ((s.stand n).updArm m Roll.spend).arm m = _
  rw [StandRec.updArm, StandRec.arm_setArm_same, hx, Option.map_some, Roll.spend, if_pos hrun]

theorem State.fault_webLoss {s : State} {n : Stand} {m : Arm} (c : FaultCause) (h : (s.stand n).running = some m) :
    ((s.webLoss n c).stand n).fault = some ((s.stand n).fault.getD c) := by
  rw [State.stand_webLoss c h]
  show some (((s.stand n).updArm m Roll.spend).fault.getD c) = _
  rw [StandRec.updArm, StandRec.fault_setArm]

/-! ### Decrements (R98) -/

theorem State.setStand_stand (s : State) (n : Stand) : s.setStand n (s.stand n) = s := by
  simp [State.setStand, State.stand]

/-- R100: the expiry test, as one change of the stand and of what waits. -/
theorem State.testExpiry_with {s : State} {n : Stand} {x : Roll} (hx : (s.stand n).runningRoll = some x) :
    let due := decide (x.remaining ≤ (s.standCfg n).reserve) && decide ((s.stand n).fault = none) &&
      decide ((s.stand n).expiry = .notDue)
    s.testExpiry n =
      { s.setStand n { s.stand n with
          expiry := if due then (if s.lineMoves then .raised else .due) else (s.stand n).expiry } with
        inbox := s.inbox ++ if due && s.lineMoves then [.expiry n] else [] } := by
  intro due
  rw [State.testExpiry_eq hx]
  by_cases h : x.remaining ≤ (s.standCfg n).reserve ∧ (s.stand n).fault = none ∧ (s.stand n).expiry = .notDue
  · have hdue : due = true := by simp [due, h]
    rw [if_pos h, hdue]
    cases s.lineMoves
    · simp
      rfl
    · simp
      rfl
  · have hdue : due = false := by
      rw [Bool.eq_false_iff]
      simpa [due, and_assoc] using h
    have hs : s.setStand n { s.stand n with expiry := (s.stand n).expiry } = s := s.setStand_stand n
    rw [if_neg h, hdue, Bool.false_and, if_neg Bool.false_ne_true, if_neg Bool.false_ne_true, List.append_nil, hs]

/-- R98: a roll after a decrement. -/
def Roll.decremented (x : Roll) (c : StandCfg) (unit : Nat) : Roll :=
  { x with
    remaining := x.remaining - 1, acc := x.acc + c.takeup - unit, reserveSeen := x.reserveSeen || decide (x.remaining - 1 ≤ c.reserve),
    minRunSeen := x.minRunSeen || decide (x.remaining - 1 ≤ c.minRun) }

/-- R100: the expiry a decrement of roll `x` makes due. -/
def State.decrementDue (s : State) (n : Stand) (x : Roll) : Bool :=
  decide (x.remaining - 1 ≤ (s.standCfg n).reserve) && decide ((s.stand n).fault = none) && decide ((s.stand n).expiry = .notDue)

/-- R98, R110: the decrement is the first of the roll at or below a threshold. -/
def State.decrementFirst (s : State) (n : Stand) (x : Roll) : Bool :=
  (decide (x.remaining - 1 ≤ (s.standCfg n).reserve) && !x.reserveSeen) ||
    (decide (x.remaining - 1 ≤ (s.standCfg n).minRun) && !x.minRunSeen)

/-- R98 to R100: the stand after a decrement of its RUNNING roll. -/
def State.decrementedStand (s : State) (n : Stand) (m : Arm) (x : Roll) : StandRec :=
  { (s.stand n).setArm m (some (x.decremented (s.standCfg n) s.drawUnit)) with
    expiry := if s.decrementDue n x then (if s.lineMoves then .raised else .due) else (s.stand n).expiry }

/-- R98 to R100: the state after a decrement, before a run-out. -/
def State.decremented (s : State) (n : Stand) (m : Arm) (x : Roll) : State :=
  { (s.setStand n (s.decrementedStand n m x)).markIf (s.decrementFirst n x) srcStands with
    inbox := s.inbox ++ (if s.decrementDue n x && s.lineMoves then [.expiry n] else []) ++
      (if decide (x.remaining - 1 ≤ (s.standCfg n).minRun) then [.minRun n] else []) }

theorem markIf_setStand (s : State) (b : Bool) (i : NoticeSource) (n : Stand) (r : StandRec) :
    (s.markIf b i).setStand n r = (s.setStand n r).markIf b i := by cases b <;> rfl

theorem stand_markIf (s : State) (b : Bool) (i : NoticeSource) (n : Stand) : (s.markIf b i).stand n = s.stand n := by cases b <;> rfl

theorem standCfg_markIf (s : State) (b : Bool) (i : NoticeSource) (n : Stand) : (s.markIf b i).standCfg n = s.standCfg n := by
  cases b <;> rfl

theorem lineMoves_markIf (s : State) (b : Bool) (i : NoticeSource) : (s.markIf b i).lineMoves = s.lineMoves := by cases b <;> rfl

/-- The RUNNING roll replaced by a RUNNING one. -/
theorem StandRec.running_setArm {r : StandRec} {m : Arm} {y : Roll} (h : r.running = some m) (hy : y.state = .running) :
    (r.setArm m (some y)).running = some m := by
  have runs : (r.setArm m (some y)).runsOn m = true := (StandRec.runsOn_iff _ _).mpr ⟨y, by rw [StandRec.arm_setArm_same], hy⟩
  cases m with
  | a => rw [StandRec.running, if_pos runs]
  | b =>
    have hb : (r.setArm .b (some y)).runsOn .a = r.runsOn .a := rfl
    have idle : ¬r.runsOn .a = true := fun ha => by rw [StandRec.running, if_pos ha] at h; cases h
    rw [StandRec.running, hb, if_neg idle, if_pos runs]

/-- R98, R110: the state after the draw of a decrement, before its expiry test. -/
def State.drawnDown (s : State) (n : Stand) (m : Arm) (x : Roll) : State :=
  (s.updStand n (fun r => r.setArm m (some (x.decremented (s.standCfg n) s.drawUnit)))).markIf (s.decrementFirst n x) srcStands

theorem State.testExpiry_drawnDown {s : State} {n : Stand} {m : Arm} {x : Roll} (hm : (s.stand n).running = some m)
    (runs : x.state = .running) :
    (s.drawnDown n m x).testExpiry n = { (s.setStand n (s.decrementedStand n m x)).markIf (s.decrementFirst n x) srcStands with
        inbox := s.inbox ++ if s.decrementDue n x && s.lineMoves then [.expiry n] else [] } := by
  have roll : ((s.drawnDown n m x).stand n).runningRoll = some (x.decremented (s.standCfg n) s.drawUnit) := by
    rw [State.drawnDown, stand_markIf, State.stand_updStand,
      StandRec.runningRoll_of_running (StandRec.running_setArm hm (show (x.decremented _ _).state = .running from runs)),
      StandRec.arm_setArm_same]
  rw [State.testExpiry_with roll]
  simp only [State.drawnDown, stand_markIf, standCfg_markIf, lineMoves_markIf, markIf_setStand, State.updStand_eq,
    State.setStand_setStand, State.standCfg_setStand, State.lineMoves_setStand, StandRec.fault_setArm, StandRec.expiry_setArm,
    State.stand_setStand, markIf_inbox, State.decrementedStand]
  rfl

/-- R98 to R100: a decrement in one piece. -/
theorem State.takeDecrement_eq {s : State} {n : Stand} {m : Arm} {x : Roll} (hm : (s.stand n).running = some m)
    (hx : (s.stand n).arm m = some x) :
    s.takeDecrement n =
      s.standsMarked (if x.remaining - 1 = 0 then (s.decremented n m x).webLoss n .runOut else s.decremented n m x) := by
  have roll := (StandRec.runningRoll_of_running hm).trans hx
  obtain ⟨y, hy, runs⟩ := StandRec.arm_of_running hm
  cases hx.symm.trans hy
  have reported : (if decide (x.remaining - 1 ≤ (s.standCfg n).minRun) then ((s.drawnDown n m x).testExpiry n).post (.minRun n)
      else (s.drawnDown n m x).testExpiry n) = s.decremented n m x := by
    rw [State.testExpiry_drawnDown hm runs, State.decremented]
    cases decide (x.remaining - 1 ≤ (s.standCfg n).minRun)
    · rw [if_neg Bool.false_ne_true, if_neg Bool.false_ne_true, List.append_nil]
    · rfl
  rw [← reported]
  simp only [State.takeDecrement, hm, roll]
  rfl

theorem State.stand_decremented (s : State) (n : Stand) (m : Arm) (x : Roll) :
    (s.decremented n m x).stand n = s.decrementedStand n m x := (stand_markIf _ _ _ n).trans (State.stand_setStand _ _ _)

theorem State.stand_decremented_other (s : State) {n k : Stand} (m : Arm) (x : Roll) (hk : k ≠ n) :
    (s.decremented n m x).stand k = s.stand k := (stand_markIf _ _ _ k).trans (State.stand_setStand_other _ _ hk)

/-- R110: a decrement that is no run-out leaves the states of the rolls and of the stand. -/
theorem State.marks_decrementedStand {s : State} {n : Stand} {m : Arm} {x : Roll} (hx : (s.stand n).arm m = some x) :
    (s.stand n).marks = (s.decrementedStand n m x).marks :=
  (StandRec.marks_setArm _ m (some (x.decremented (s.standCfg n) s.drawUnit))).mpr (by rw [hx]; rfl)

theorem State.standsMarked_decremented {s : State} {n : Stand} {m : Arm} {x : Roll} (hx : (s.stand n).arm m = some x) :
    s.standsMarked (s.decremented n m x) = s.decremented n m x := by
  rw [State.standsMarked_eq (fun k hk => State.stand_decremented_other s m x hk), State.stand_decremented,
    decide_eq_true (State.marks_decrementedStand hx)]
  rfl

/-- R98: a decrement that is no run-out. -/
theorem State.takeDecrement_above {s : State} {n : Stand} {m : Arm} {x : Roll} (hm : (s.stand n).running = some m)
    (hx : (s.stand n).arm m = some x) (h : 2 ≤ x.remaining) : s.takeDecrement n = s.decremented n m x := by
  rw [State.takeDecrement_eq hm hx, if_neg (by omega), State.standsMarked_decremented hx]

/-- Above both thresholds a decrement changes the roll alone. -/
theorem State.decremented_above {s : State} {n : Stand} {m : Arm} {x : Roll} (hr : (s.standCfg n).reserve < x.remaining - 1)
    (hmin : (s.standCfg n).minRun < x.remaining - 1) :
    s.decremented n m x = s.setStand n ((s.stand n).setArm m
      (some { x with remaining := x.remaining - 1, acc := x.acc + (s.standCfg n).takeup - s.cpm * 1000 })) := by
  have notReserve : decide (x.remaining - 1 ≤ (s.standCfg n).reserve) = false := decide_eq_false (by omega)
  have notMin : decide (x.remaining - 1 ≤ (s.standCfg n).minRun) = false := decide_eq_false (by omega)
  have roll : x.decremented (s.standCfg n) s.drawUnit =
      { x with remaining := x.remaining - 1, acc := x.acc + (s.standCfg n).takeup - s.cpm * 1000 } := by
    rw [Roll.decremented, notReserve, notMin, Bool.or_false, Bool.or_false]
    rfl
  have due : s.decrementDue n x = false := by rw [State.decrementDue, notReserve, Bool.false_and, Bool.false_and]
  have first : s.decrementFirst n x = false := by rw [State.decrementFirst, notReserve, notMin]; rfl
  have stand : s.decrementedStand n m x = (s.stand n).setArm m (some (x.decremented (s.standCfg n) s.drawUnit)) := by
    rw [State.decrementedStand, due, if_neg Bool.false_ne_true, ← StandRec.expiry_setArm (s.stand n) m]
  rw [State.decremented, stand, roll, due, first, notMin]
  simp only [Bool.false_and, Bool.false_eq_true, if_false, List.append_nil]
  rfl

/-- Settles O15: a decrement leaves `State.decremented`, and one that brings the roll to 0 the web loss of it. -/
theorem decrementDrawsRoll : Obligations.DecrementDrawsRoll := by
  intro s n m x hm hx
  refine ⟨fun hr hmin => (State.takeDecrement_above hm hx (by omega)).trans (State.decremented_above hr hmin), fun h2 => ?_, fun h1 => ?_⟩
  · intro atReserve atMinRun due moves t
    have ht : t = s.decremented n m x := State.takeDecrement_above hm hx h2
    refine ⟨?_, ?_, fun k hk => ?_, ?_, ?_⟩
    · rw [ht, State.decremented]
      cases s.decrementFirst n x <;> rfl
    · rw [ht, State.stand_decremented]
      rfl
    · rw [ht, State.stand_decremented_other _ _ _ hk]
    · rw [ht]
      rfl
    · rw [ht, State.decremented, State.decrementFirst]
      cases (atReserve && !x.reserveSeen) || (atMinRun && !x.minRunSeen) <;> rfl
  · have lost : s.handle (.decrement n) = s.standsMarked ((s.decremented n m x).webLoss n .runOut) :=
      (State.takeDecrement_eq hm hx).trans (by rw [if_pos (by omega)])
    obtain ⟨y, hy, runs⟩ := StandRec.arm_of_running hm
    cases hx.symm.trans hy
    have arm : ((s.decremented n m x).stand n).arm m = some (x.decremented (s.standCfg n) s.drawUnit) := by
      rw [State.stand_decremented]
      exact StandRec.arm_setArm_same _ _ _
    have running : ((s.decremented n m x).stand n).running = some m := by
      rw [State.stand_decremented]
      exact StandRec.running_setArm hm runs
    have stand (k : Stand) : (s.handle (.decrement n)).stand k = ((s.decremented n m x).webLoss n .runOut).stand k := by
      rw [lost, State.standsMarked, stand_markIf]
    refine ⟨⟨?_, fun k hk => ?_⟩, ?_, ⟨{ x.decremented (s.standCfg n) s.drawUnit with state := .expired }, ?_, rfl, ?_⟩, ?_, ?_⟩
    · refine eq_patch_of_erase (F := [.stands, .map, .notices, .inbox, .choice]) ?_
      rw [lost, erase_standsMarked _ _ (by decide), erase_webLoss _ _ _ (by decide), State.decremented,
        erase_with_inbox _ _ (by decide), erase_markIf _ _ _ (by decide), erase_setStand _ _ _ (by decide)]
    · rw [stand, State.stand_webLoss_other _ hk, State.stand_decremented_other _ _ _ hk]
    · obtain ⟨l, hl⟩ := State.inbox_webLoss .runOut running
      exact ⟨l, by rw [lost, State.standsMarked, markIf_inbox, hl]; rfl⟩
    · rw [stand, State.arm_webLoss .runOut running arm]
    · exact Nat.sub_eq_zero_of_le (Nat.le_of_eq h1)
    · rw [stand, State.fault_webLoss .runOut running, State.stand_decremented, State.decrementedStand, StandRec.fault_setArm]
    · rw [stand, State.stand_webLoss .runOut running]

end Sys2Proof.Machine

/-! The Reel Stands, second part: web losses and their span (O37), and CLEAR_STAND (O38). -/

namespace Sys2Proof.Machine

/-! ### Opening and closing spans -/

theorem openSpanOf_none {s : State} {src : Source} : s.openSpanOf src = none ↔ ∀ y ∈ s.map.spans, y.openFor ≠ some src := by
  simp [State.openSpanOf]

theorem openCount_eq_zero {src : Source} {l : List Span} : openCount src l = 0 ↔ ∀ y ∈ l, y.openFor ≠ some src := by
  simp [openCount, List.countP_eq_zero]

theorem MapChange.length_le {e : Pos} {l l' : List Span} (h : MapChange e l l') : l'.length ≤ max Config.mapRoom l.length := by
  cases h with
  | drop sub => exact sub.length_le.trans (le_max_right _ _)
  | put x sub room _ => rwa [length_mapInsert]

/-- R9: closing a span takes no room. -/
theorem State.length_closeSpan (s : State) (src : Source) (a : Pos) :
    (s.closeSpan src a).map.spans.length ≤ s.map.spans.length := by
  simp only [State.closeSpan]
  split
  · exact le_rfl
  · next t ht =>
    have less := MapChange.length_without (openSpanOf_mem ht).1
    split_ifs
    · rw [State.spans_setSpans, mapMerge, length_mapInsert]
      exact (Nat.add_le_add_right (mergeSpan_sublist _ _ _ _).length_le 1).trans less
    · rw [State.spans_setSpans]
      exact List.length_filter_le _ _

/-- R9: where a source has no two open spans, closing leaves it none. -/
theorem State.openSpanOf_closeSpan {s : State} (hs : s.SpansOk) (src : Source) (a : Pos) :
    (s.closeSpan src a).openSpanOf src = none := by
  simp only [State.closeSpan]
  split
  · next h => exact h
  · next t ht =>
    obtain ⟨mem, opens⟩ := openSpanOf_mem ht
    have rest : openCount src (s.map.spans.filter (fun x => !decide (x = t))) = 0 := by
      have one := ((spansOk_iff s).mp hs).2 src
      have less := MapChange.openCount_without mem src
      rw [openCount, List.countP_cons_of_pos (by simpa using opens), ← openCount] at less
      omega
    rw [openSpanOf_none, ← openCount_eq_zero]
    split_ifs
    · rw [State.spans_setSpans, mapMerge, openCount_perm (mapInsert_perm _ _ _), openCount_cons_none]
      · exact Nat.eq_zero_of_le_zero ((openCount_sublist (mergeSpan_sublist _ _ _ _)).trans_eq rest)
      · rw [(Span.Shut.mergeSpan ⟨rfl, rfl⟩ _ _ _).1]
        exact Option.some_ne_none _ |>.symm
    · rw [State.spans_setSpans, rest]

/-- R8: a span opened with room. -/
theorem State.spans_openSpan {s : State} {kind : SpanKind} {src : Source} {a : Pos} (hg : s.cfg.geometry.isSome = true)
    (ho : s.openSpanOf src = none) (hroom : s.map.spans.length < 48) :
    (s.openSpan kind src a).map.spans = mapInsert s.tracker.pos
      { kind := kind, source := src, start := clampStart s.tracker.pos a, stop := none, coarse := false, openFor := some src,
        floor := none, age := s.map.entryAge } s.map.spans := by
  have open_ : ¬(s.cfg.geometry.isNone || (s.openSpanOf src).isSome) = true := by
    rw [ho, Option.isNone_eq_false_iff.mpr hg]
    exact Bool.false_ne_true
  simp only [State.openSpan]
  rw [if_neg open_, if_pos (show s.map.spans.length < Config.mapRoom from hroom), State.spans_setSpans]

theorem State.openSpan_of_open {s : State} {src : Source} (kind : SpanKind) (a : Pos) (ho : (s.openSpanOf src).isSome = true) :
    s.openSpan kind src a = s := by
  simp only [State.openSpan, ho, Bool.or_true, if_true]

/-- R8: with room a span is open for the source afterwards. -/
theorem State.exists_open_openSpan {s : State} (kind : SpanKind) {src : Source} (a : Pos) (hg : s.cfg.geometry.isSome = true)
    (hroom : s.map.spans.length < 48) : ∃ x ∈ (s.openSpan kind src a).map.spans, x.openFor = some src := by
  cases ho : s.openSpanOf src with
  | none => exact ⟨_, by rw [State.spans_openSpan hg ho hroom]; exact (mapInsert_perm _ _ _).mem_iff.mpr (.head _), rfl⟩
  | some x => exact ⟨x, by rw [State.openSpan_of_open kind a (by rw [ho]; rfl)]; exact (openSpanOf_mem ho).1, (openSpanOf_mem ho).2⟩

/-- R8: with room, and none open for the source before, the span opened is the only one open for it. -/
theorem State.only_open_openSpan {s : State} {kind : SpanKind} {src : Source} {a : Pos} (hg : s.cfg.geometry.isSome = true)
    (ho : s.openSpanOf src = none) (hroom : s.map.spans.length < 48) :
    ∃ x ∈ (s.openSpan kind src a).map.spans, x.kind = kind ∧ x.source = src ∧ x.openFor = some src ∧ x.stop = none ∧
      x.start = clampStart s.tracker.pos a ∧ ∀ y ∈ (s.openSpan kind src a).map.spans, y.openFor = some src → y = x := by
  rw [State.spans_openSpan hg ho hroom]
  refine ⟨_, (mapInsert_perm _ _ _).mem_iff.mpr (.head _), rfl, rfl, rfl, rfl, rfl, fun y hy hopen => ?_⟩
  rcases List.mem_cons.mp ((mapInsert_perm _ _ _).mem_iff.mp hy) with rfl | hy
  · rfl
  · exact absurd hopen (openSpanOf_none.mp ho y hy)

/-! ### Web losses (R102) -/

theorem State.SpansOk.of_map {s t : State} (hs : s.SpansOk) (h : t.map = s.map) : t.SpansOk :=
  (spansOk_iff t).mpr (h ▸ (spansOk_iff s).mp hs)

/-- R102: the state of a web loss before the WEB_BREAK span is opened. -/
def State.lossClosed (s : State) (n : Stand) (m : Arm) (c : FaultCause) : State :=
  (s.updStand n (fun r => { (r.updArm m Roll.spend).faultWith c with breakFlag := true })).closeSpan (.stand n) (s.boardAt n)

theorem State.map_webLoss {s : State} {n : Stand} {m : Arm} (c : FaultCause) (h : (s.stand n).running = some m) :
    (s.webLoss n c).map = ((s.lossClosed n m c).openSpan .webBreak (.stand n) (s.boardAt n)).map := by
  rw [State.webLoss_of_running c h]
  rfl

theorem State.erase_lossClosed (s : State) (n : Stand) (m : Arm) (c : FaultCause) :
    (s.lossClosed n m c).erase [.stands, .map, .inbox, .choice] = s.erase [.stands, .map, .inbox, .choice] :=
  (erase_closeSpan _ _ _ (by decide)).trans (erase_updStand _ _ _ (by decide))

/-- Settles O37. -/
theorem webLostFaultsStand : Obligations.WebLostFaultsStand := by
  intro n s
  have quiet : ({ s with inbox := [] } : State).stand n = s.stand n := rfl
  refine ⟨fun hm => ?_, fun m hm => ?_⟩
  · have nothing : State.takeWebLost { s with inbox := [] } n = { s with inbox := [] } := by
      rw [State.takeWebLost, State.webLoss_of_none _ (quiet ▸ hm), State.standsMarked_self]
    exact (run_quiet s (fun t => t.takeWebLost n) (by rw [nothing])).trans (by rw [nothing])
  · obtain ⟨x, hx, -⟩ := StandRec.arm_of_running hm
    have hm' : (({ s with inbox := [] } : State).stand n).running = some m := quiet ▸ hm
    obtain ⟨l, hl⟩ := State.inbox_webLoss .webLost hm'
    have stand (k : Stand) : (State.takeWebLost { s with inbox := [] } n).stand k =
        (State.webLoss { s with inbox := [] } n .webLost).stand k := by rw [State.takeWebLost, State.standsMarked, stand_markIf]
    refine ⟨State.takeWebLost { s with inbox := [] } n, l, rfl, ?_, ?_, ?_, ?_, ⟨{ x with state := .expired }, ?_, rfl⟩, fun k hk => ?_,
      fun hg hroom => ?_⟩
    · refine eq_patch_of_erase (F := [.stands, .map, .notices, .inbox, .choice]) ?_
      rw [State.takeWebLost, erase_standsMarked _ _ (by decide), erase_webLoss _ _ _ (by decide), erase_with_inbox _ _ (by decide)]
    · rw [State.takeWebLost, State.standsMarked, markIf_inbox, hl]
      rfl
    · rw [stand, State.fault_webLoss .webLost hm', quiet]
    · rw [stand, State.stand_webLoss .webLost hm']
    · rw [stand, State.arm_webLoss .webLost hm' (quiet ▸ hx)]
    · rw [stand, State.stand_webLoss_other _ hk]
      rfl
    · have map : (State.takeWebLost { s with inbox := [] } n).map.spans =
          ((State.lossClosed { s with inbox := [] } n m .webLost).openSpan .webBreak (.stand n) (s.boardAt n)).map.spans := by
        rw [State.takeWebLost, map_of_erase (erase_standsMarked _ _ (F := [.notices]) (by decide)) (by decide), State.map_webLoss _ hm']
        rfl
      have frame := State.erase_lossClosed { s with inbox := [] } n m .webLost
      have geometry : (State.lossClosed { s with inbox := [] } n m .webLost).cfg.geometry.isSome = true := by
        rw [cfg_of_erase frame (by decide)]
        exact hg
      have pos : (State.lossClosed { s with inbox := [] } n m .webLost).tracker.pos = s.tracker.pos := by
        rw [tracker_of_erase frame (by decide)]
      have room : (State.lossClosed { s with inbox := [] } n m .webLost).map.spans.length < 48 :=
        (State.length_closeSpan _ _ _).trans_lt hroom
      rw [map]
      refine ⟨State.exists_open_openSpan _ _ geometry room, fun hs => ?_⟩
      have only := State.only_open_openSpan (kind := .webBreak) (a := s.boardAt n) geometry
        (State.openSpanOf_closeSpan (s := State.updStand { s with inbox := [] } n _) (hs.of_map rfl) _ _) room
      rw [pos] at only
      obtain ⟨sp, mem, kind, source, opens, stop, start, uniq⟩ := only
      exact ⟨sp, mem, kind, source, opens, stop, start, uniq⟩

/-! ### CLEAR_STAND (R108) -/

/-- R100: renewing the expiry of a stand changes it and may report it, nothing else. -/
theorem State.freshExpiry_with (s : State) (n : Stand) :
    ∃ e l, s.freshExpiry n = { s.setStand n { s.stand n with expiry := e } with inbox := s.inbox ++ l } := by
  rw [State.freshExpiry, State.updStand_eq]
  cases hx : ((s.setStand n { s.stand n with expiry := .notDue }).stand n).runningRoll with
  | none =>
    refine ⟨.notDue, [], ?_⟩
    simp only [State.testExpiry, hx, List.append_nil]
    rfl
  | some x =>
    have tested := State.testExpiry_with hx
    simp only [State.stand_setStand, State.setStand_setStand] at tested
    exact ⟨_, _, tested⟩

theorem StandRec.runsOn_makeRunning {r : StandRec} {m : Arm} (h : (r.arm m).isSome = true) : (r.makeRunning m).runsOn m = true := by
  obtain ⟨x, hx⟩ := Option.isSome_iff_exists.mp h
  unfold StandRec.makeRunning
  split
  · assumption
  · refine (StandRec.runsOn_iff _ _).mpr ⟨x.run, ?_, rfl⟩
    rw [StandRec.updArm, StandRec.arm_setArm_same, StandRec.updArm, StandRec.arm_setArm_of_other, hx]
    rfl

/-- R108 step 1: the other roll no longer runs. -/
theorem StandRec.runsOn_other_makeRunning {r : StandRec} {m : Arm} (h : r.runsOn m = false) :
    (r.makeRunning m).runsOn (Arm.other m) = false := by
  rw [StandRec.makeRunning, if_neg (by rw [h]; exact Bool.false_ne_true), StandRec.runsOn, StandRec.updArm,
    StandRec.arm_setArm_other, StandRec.updArm, StandRec.arm_setArm_same]
  cases r.arm (Arm.other m) with
  | none => rfl
  | some x => exact decide_eq_false (StandRec.spend_not_running x)

/-- R108: the stand a CLEAR_STAND leaves, but for its expiry. -/
def StandRec.cleared (r : StandRec) (m : Option Arm) : StandRec :=
  { (match m with | some x => r.makeRunning x | none => r) with breakFlag := false, fault := none }

/-- R108: the state of a CLEAR_STAND before the report that the stand is clear. -/
def State.clearedUp (s : State) (n : Stand) (m : Option Arm) : State :=
  ((match m with | some x => s.updStand n (fun r => r.makeRunning x) | none => s).closeSpan (.stand n) (s.boardAt n)).updStand n
    (fun r => { r with breakFlag := false, fault := none })

theorem State.clearStand_eq (s : State) (n : Stand) (m : Option Arm) :
    s.clearStand n m = s.standsMarked (((s.clearedUp n m).post (.cleared n)).freshExpiry n) := rfl

theorem State.stand_clearedUp (s : State) (n : Stand) (m : Option Arm) : (s.clearedUp n m).stand n = (s.stand n).cleared m := by
  unfold State.clearedUp
  rw [State.stand_updStand,
    State.stand_of_stands (stands_of_erase (erase_closeSpan _ _ _ (F := [.map, .inbox, .choice]) (by decide)) (by decide))]
  cases m with
  | none => rfl
  | some x => rw [State.stand_updStand]; rfl

theorem State.stand_clearedUp_other (s : State) {n k : Stand} (m : Option Arm) (hk : k ≠ n) :
    (s.clearedUp n m).stand k = s.stand k := by
  unfold State.clearedUp
  rw [State.stand_updStand_other _ _ hk,
    State.stand_of_stands (stands_of_erase (erase_closeSpan _ _ _ (F := [.map, .inbox, .choice]) (by decide)) (by decide))]
  cases m with
  | none => rfl
  | some x => rw [State.stand_updStand_other _ _ hk]

theorem State.stand_clearStand (s : State) (n : Stand) (m : Option Arm) :
    ∃ e, (s.clearStand n m).stand n = { (s.stand n).cleared m with expiry := e } := by
  obtain ⟨e, l, h⟩ := State.freshExpiry_with ((s.clearedUp n m).post (.cleared n)) n
  refine ⟨e, ?_⟩
  rw [State.clearStand_eq, State.standsMarked, stand_markIf, h]
  refine (State.stand_setStand _ _ _).trans ?_
  rw [State.stand_post, State.stand_clearedUp]

theorem State.stand_clearStand_other (s : State) {n k : Stand} (m : Option Arm) (hk : k ≠ n) :
    (s.clearStand n m).stand k = s.stand k := by
  obtain ⟨e, l, h⟩ := State.freshExpiry_with ((s.clearedUp n m).post (.cleared n)) n
  rw [State.clearStand_eq, State.standsMarked, stand_markIf, h]
  refine (State.stand_setStand_other _ _ hk).trans ?_
  rw [State.stand_post, State.stand_clearedUp_other _ _ hk]

/-- R131: the Splice Sequencer is told. -/
theorem State.cleared_mem_clearStand (s : State) (n : Stand) (m : Option Arm) : Ev.cleared n ∈ (s.clearStand n m).inbox := by
  obtain ⟨e, l, h⟩ := State.freshExpiry_with ((s.clearedUp n m).post (.cleared n)) n
  rw [State.clearStand_eq, State.standsMarked, markIf_inbox, h]
  exact List.mem_append_left _ (List.mem_append_right _ (.head _))

theorem State.clearStand_frame (s : State) (n : Stand) (m : Option Arm) :
    (s.clearStand n m).erase [.stands, .map, .notices, .inbox, .choice] = s.erase [.stands, .map, .notices, .inbox, .choice] :=
  erase_clearStand _ _ _ (by decide)

/-- R108: no roll on the named arm, or an empty one. -/
def StandRec.cannotRun (r : StandRec) : Option Arm → Bool
  | some x => match r.arm x with | some y => decide (y.remaining = 0) | none => true
  | none => false

theorem StandRec.cannotRun_iff {r : StandRec} {m : Option Arm} :
    r.cannotRun m = false ↔ ∀ k, m = some k → ∃ x, r.arm k = some x ∧ 0 < x.remaining := by
  cases m with
  | none => simp [StandRec.cannotRun]
  | some k => cases hx : r.arm k <;> simp [StandRec.cannotRun, hx, Nat.pos_iff_ne_zero]

theorem State.reqClearStand_of_not {k : Nat} {a : Option Nat} (s : State) (h : ¬(1 ≤ k ∧ k ≤ 7 ∧ ∀ x, a = some x → x ≤ 1)) :
    s.reqClearStand k a = (s, .just .badValue) := by
  unfold State.reqClearStand
  by_cases hk : 1 ≤ k ∧ k ≤ 7
  · cases a with
    | none => simp [hk] at h
    | some x =>
      have big : 1 < x := by
        simp only [hk, true_and, Option.some.injEq, forall_eq', not_le] at h
        exact h
      rw [Option.bind_some, armOfCode_of_lt big]
      cases Stand.ofNumber k <;> rfl
  · rw [standOfNumber_of_not hk]

theorem State.reqClearStand_number (s : State) (n : Stand) (m : Option Arm) :
    s.reqClearStand (Stand.number n) (m.map Arm.code) =
      if s.gov.mode = .unconfigured ∨ (s.stand n).fault = none ∨ (m.isSome = true ∧ s.lineMoves = true) then (s, .just .wrongMode)
      else if (s.stand n).cannotRun m = true then (s, .just .notReady)
      else (s.clearStand n m, .okWith (encStandState ((s.clearStand n m).stand n) ++
        encArmState ((s.clearStand n m).stand n).armA ++ encArmState ((s.clearStand n m).stand n).armB)) := by
  have arm : (m.map Arm.code).bind Arm.ofCode = m := by cases m <;> simp
  unfold State.reqClearStand
  rw [standOfNumber_number, arm, ite_or, ite_or]
  cases m <;> rfl

/-- Settles O38. -/
theorem clearStandRestores : Obligations.ClearStandRestores := by
  intro tag s h
  refine ⟨fun k a hka => run_just (owner := fun t => t.reqClearStand k a) (by decide) (h.reqClearStand_of_not hka) rfl, fun n m => ?_⟩
  intro c
  have owner := h.reqClearStand_number n m
  have moves : h.lineMoves = true ↔ s.gov.mode = .running ∨ s.gov.mode = .stopping := by
    rw [State.lineMoves, Bool.or_eq_true, decide_eq_true_iff, decide_eq_true_iff]
    rfl
  have refuses {st : Status} (ho : h.reqClearStand (Stand.number n) (m.map Arm.code) = (h, .just st)) :
      exec c s = .next (h.answered 0x3C tag st []).refreshLimits :=
    run_just (owner := fun t => t.reqClearStand (Stand.number n) (m.map Arm.code)) (by decide) ho rfl
  have allowed (hu : s.gov.mode ≠ .unconfigured) (hf : (s.stand n).fault ≠ none)
      (hm : m = none ∨ (s.gov.mode ≠ .running ∧ s.gov.mode ≠ .stopping)) :
      ¬(h.gov.mode = .unconfigured ∨ (h.stand n).fault = none ∨ (m.isSome = true ∧ h.lineMoves = true)) := by
    rw [moves]
    rintro (hu' | hf' | ⟨some, run | stop⟩)
    · exact hu hu'
    · exact hf hf'
    · rcases hm with rfl | hm
      · cases some
      · exact hm.1 run
    · rcases hm with rfl | hm
      · cases some
      · exact hm.2 stop
  refine ⟨fun hr => ?_, fun hu hf hm hno hsome => ?_, fun hu hf hm hcan => ?_⟩
  · refine refuses (owner.trans (if_pos ?_))
    rw [moves]
    exact hr
  · refine refuses (owner.trans ((if_neg (allowed hu hf hm)).trans (if_pos ?_)))
    obtain ⟨k, rfl⟩ := Option.ne_none_iff_exists'.mp hsome
    show (s.stand n).cannotRun (some k) = true
    rw [← Bool.not_eq_false, StandRec.cannotRun_iff]
    intro can
    obtain ⟨x, hx, pos⟩ := can k rfl
    rw [hno k rfl x hx] at pos
    exact lt_irrefl _ pos
  · have can : ¬(h.stand n).cannotRun m = true := by
      rw [Bool.not_eq_true]
      exact StandRec.cannotRun_iff.mpr hcan
    obtain ⟨e, stand⟩ := h.stand_clearStand n m
    refine ⟨h.clearStand n m, ?_, eq_patch_of_erase (h.clearStand_frame n m), ?_, ?_, h.cleared_mem_clearStand n m,
      fun k hk => h.stand_clearStand_other m hk, ?_⟩
    · have done := owner.trans ((if_neg (allowed hu hf hm)).trans (if_neg can))
      refine (run_okWith_finish (owner := fun t => t.reqClearStand (Stand.number n) (m.map Arm.code)) (by decide) done).trans ?_
      rw [encStandState, show ((h.clearStand n m).stand n).fault = none by rw [stand]; rfl]
      rfl
    · rw [stand]
      rfl
    · rw [stand]
      rfl
    · rintro k rfl
      obtain ⟨x, hx, -⟩ := hcan k rfl
      have runs (j : Arm) : ((h.clearStand n (some k)).stand n).runsOn j = ((s.stand n).makeRunning k).runsOn j := by
        rw [stand]
        cases j <;> rfl
      rw [runs, runs]
      exact ⟨StandRec.runsOn_makeRunning (by rw [hx]; rfl), StandRec.runsOn_other_makeRunning⟩

end Sys2Proof.Machine

/-! The reject gate and the Stacker: what their operations keep, and the statements about them (O32, O33). -/

namespace Sys2Proof.Machine

/-! ### What closing, transfers and end tests keep -/

/-- A stack record as its transfer finds it: what closing a stack keeps of it. -/
def StackRec.core (x : StackRec) : Nat × Nat × Nat × Nat := (x.id, x.number, x.allotted, x.landed)

/-- What closing a stack, starting its transfer and the end test of an order keep of the Stacker. -/
def Stacker.core (k : Stacker) : List TrainRec × Bool × Option (Nat × Nat × Nat × Nat) × Option StackRec × List OutEntry :=
  (k.train, k.divert, k.table.map StackRec.core, k.fingers, k.out)

/-- What the final entries of a cover list keep of the Stacker as well. -/
def Stacker.gateSide (k : Stacker) : List TrainRec × Bool × List OutEntry := (k.train, k.divert, k.out)

theorem Stacker.gateSide_of_core {k l : Stacker} (h : k.core = l.core) : k.gateSide = l.gateSide := by
  simp only [Stacker.core, Prod.mk.injEq] at h
  obtain ⟨train, divert, -, -, out⟩ := h
  rw [Stacker.gateSide, Stacker.gateSide, train, divert, out]

theorem core_endTest (s : State) (id : Nat) : (s.endTest id).stacker.core = s.stacker.core := by
  simp only [State.endTest]
  split_ifs <;> rfl

theorem core_startTransfer (s : State) : s.startTransfer.stacker.core = s.stacker.core := by
  unfold State.startTransfer
  split <;> rfl

theorem core_tryClose (s : State) : s.tryClose.stacker.core = s.stacker.core := by
  simp only [State.tryClose]
  split
  · rfl
  · next r hr =>
    split_ifs
    · rw [core_endTest, core_startTransfer]
      simp only [State.post_stacker, Stacker.core, hr, Option.map_some]
      rfl
    · rfl

theorem gateSide_setLast (k : Stacker) (id : Nat) : (k.setLast id).gateSide = k.gateSide := by
  simp only [Stacker.setLast]
  (repeat' split) <;> rfl

theorem gateSide_takeFinal (s : State) (id : Nat) : (s.takeFinal id).stacker.gateSide = s.stacker.gateSide :=
  (Stacker.gateSide_of_core ((core_endTest _ _).trans (core_tryClose _))).trans (gateSide_setLast _ _)

theorem gateSide_takeFinals (s : State) (l : List Cover) : (s.takeFinals l).stacker.gateSide = s.stacker.gateSide := by
  unfold State.takeFinals State.each
  induction l.filter (fun c => c.final) generalizing s with
  | nil => rfl
  | cons c l ih => exact (ih _).trans (gateSide_takeFinal s c.id)

/-! ### The gate (R81, R82) -/

theorem StackRec.takes_iff (x : StackRec) (id room : Nat) :
    x.takes id room = true ↔ x.closed = false ∧ x.id = id ∧ x.lastFlag = false ∧ x.allotted < room := by
  simp [StackRec.takes, and_assoc]

/-- R82: a stack record has room for a sheet of an order. -/
def State.hasRoom (s : State) (id : Nat) : Prop :=
  s.stacker.table = none ∨ (∃ x, s.stacker.table = some x ∧ x.takes id (s.stackSize id) = true) ∨
    s.stacker.fingers = none ∨ ∃ x, s.stacker.fingers = some x ∧ x.takes id (s.fingerRoom id) = true

/-- R82: a sheet is placed exactly where a record has room for it. -/
theorem State.place_isSome (s : State) (id : Nat) : (s.place id).2.isSome = true ↔ s.hasRoom id := by
  unfold State.hasRoom
  cases ht : s.stacker.table with
  | none => simp [State.place, ht]
  | some t =>
    cases htake : t.takes id (s.stackSize id) with
    | true => simp [State.place, ht, htake]
    | false =>
      cases hf : s.stacker.fingers with
      | none => simp [State.place, ht, htake, hf]
      | some f => cases hfake : f.takes id (s.fingerRoom id) <;> simp [State.place, ht, htake, hf, hfake]

/-- R81: the sheet is GOOD and is placed. -/
def State.passes (s : State) (r : Sheet) : Prop := r.cls = .good ∧ ∃ c l, r.covers = c :: l ∧ s.hasRoom c.id

/-- R81: what the gate decides. -/
theorem State.gateDecide_passes {s : State} {r : Sheet} (h : s.passes r) :
    (s.gateDecide r).stacker.divert = false ∧ (s.gateDecide r).stacker.out = s.stacker.out := by
  obtain ⟨hgood, c, l, hcovers, hroom⟩ := h
  obtain ⟨x, hx⟩ := Option.isSome_iff_exists.mp ((s.place_isSome c.id).mpr hroom)
  obtain ⟨hout, -⟩ := s.place_keeps c.id
  simp only [State.gateDecide, hgood, hcovers, hx]
  split
  · rw [stacker_of_erase (erase_followStack _ (F := [.regs, .inbox]) (by decide)) (by decide)]
    exact ⟨rfl, hout⟩
  · exact ⟨rfl, hout⟩

/-- R81: a sheet that does not pass is diverted. -/
theorem State.gateDecide_diverts {s : State} {r : Sheet} (h : ¬s.passes r) :
    (s.gateDecide r).stacker = { s.stacker with divert := true, train := replaceAhead none s.stacker.train } := by
  simp only [State.gateDecide]
  split
  · next c l hgood hcovers =>
    have none_placed : (s.place c.id).2 = none := by
      rw [← Option.not_isSome_iff_eq_none, s.place_isSome]
      exact fun room => h ⟨hgood, c, l, hcovers, room⟩
    rw [none_placed]
    rfl
  · rfl

theorem gateSide_takeGate {s : State} {r : TrainRec} (h : s.stacker.oldestAhead = some r) :
    s.takeGate.stacker.gateSide = (s.gateDecide r.sheet).stacker.gateSide := by
  simp only [State.takeGate, h]
  rw [stacker_of_erase (erase_stackMarked _ _ (F := [.notices]) (by decide)) (by decide),
    stacker_of_erase (erase_followGate _ (F := [.regs, .inbox]) (by decide)) (by decide), gateSide_takeFinals]

/-- Settles O32. -/
theorem gatePassesPlacedSheets : Obligations.GatePassesPlacedSheets := by
  intro s p r hr t room
  have side : t.stacker.gateSide = (s.gateDecide r.sheet).stacker.gateSide := gateSide_takeGate hr
  simp only [Stacker.gateSide, Prod.mk.injEq] at side
  obtain ⟨train, divert, out⟩ := side
  have room_iff (id : Nat) : room id ↔ s.hasRoom id := by
    simp only [room, State.hasRoom, StackRec.takes_iff, State.fingerRoom]
  have passes : (r.sheet.cls = .good ∧ ∃ c l, r.sheet.covers = c :: l ∧ room c.id) ↔ s.passes r.sheet := by
    simp only [State.passes, room_iff]
  have frame : t = { s with stacker := t.stacker, regs := t.regs, notices := t.notices, inbox := t.inbox } :=
    eq_patch_of_erase (F := [.stacker, .regs, .notices, .inbox]) (erase_takeGate s (by decide))
  rw [passes, train, divert, out]
  by_cases h : s.passes r.sheet
  · obtain ⟨hdivert, hout⟩ := State.gateDecide_passes h
    rw [hdivert, hout]
    exact ⟨⟨fun _ => h, fun _ => rfl⟩, nofun, rfl, frame⟩
  · rw [State.gateDecide_diverts h]
    exact ⟨⟨nofun, fun hp => absurd hp h⟩, fun _ => rfl, rfl, frame⟩

/-! ### The out-conveyor (R86, R87) -/

theorem Notices.waiting_occur {u : Notices} {i : NoticeSource} (d : EventData) (h : tget u.levels i ≠ 7) :
    tget (u.occur i d).waiting i = true := by
  unfold Notices.occur
  rw [if_neg (fun hi => h hi.2)]
  split
  · assumption
  · exact tget_tset_same _ _ _

theorem Notices.waiting_markChanged {u : Notices} {i : NoticeSource} (k : NoticeSource) (h : tget u.waiting i = true) :
    tget (u.markChanged k).waiting i = true := by
  unfold Notices.markChanged
  split
  · exact h
  · show tget (tset u.waiting k true) i = true
    rw [tget_tset]
    split
    · rfl
    · exact h

theorem waiting_stackMarked {s t : State} {i : NoticeSource} (h : tget t.notices.waiting i = true) :
    tget (s.stackMarked t).notices.waiting i = true := by
  unfold State.stackMarked State.markIf
  split
  · exact Notices.waiting_markChanged _ h
  · exact h

/-- R93: a change of the number of out-conveyor entries marks STACKER. -/
theorem State.stackMarked_of_length {s t : State} (h : s.stacker.out.length ≠ t.stacker.out.length) :
    s.stackMarked t = t.mark srcStacker := by
  rw [State.stackMarked, decide_eq_false (fun e => h (congrArg Prod.snd e))]
  rfl

/-- R86: the out-conveyor entry of a stack. -/
def StackRec.entry (x : StackRec) : OutEntry := { id := x.id, number := x.number, count := x.landed, short := x.short }

/-- R86: the state of a TRANSFER DONE before the stack now on the table is tested. -/
def State.transferred (s : State) (x : StackRec) : State :=
  State.raise { s with stacker := { s.stacker with
      transfer := false, out := s.stacker.out ++ [x.entry], table := s.stacker.fingers, fingers := none, mode := .building } }
    srcStackOut (.stackOut x.entry (s.stacker.out.length + 1))

theorem State.takeTransferDone_of {s : State} {x : StackRec} (hmode : s.stacker.mode = .transferring) (hx : s.stacker.table = some x) :
    s.takeTransferDone = s.stackMarked
      (match s.stacker.fingers with
      | some f => (s.transferred x).tryClose.endTest f.id
      | none => (s.transferred x).tryClose) := by
  simp only [State.takeTransferDone, hmode, hx, List.length_append]
  rfl

theorem State.takeTransferDone_idle {s : State} (h : s.stacker.mode ≠ .transferring ∨ s.stacker.table = none) :
    s.takeTransferDone = s := by
  unfold State.takeTransferDone
  split
  · next hmode ht => exact (h.elim (fun hm => absurd hmode hm) (fun hn => by rw [hn] at ht; cases ht))
  · rfl

/-- What TRANSFER DONE leaves, but for the closing of the stack now on the table. -/
theorem State.takeTransferDone_core {s : State} {x : StackRec} (hmode : s.stacker.mode = .transferring)
    (hx : s.stacker.table = some x) :
    s.takeTransferDone.stacker.core = (s.transferred x).stacker.core ∧
      (tget (s.transferred x).notices.waiting srcStackOut = true → tget s.takeTransferDone.notices.waiting srcStackOut = true) := by
  rw [State.takeTransferDone_of hmode hx, stacker_of_erase (erase_stackMarked _ _ (F := [.notices]) (by decide)) (by decide)]
  have closed := core_tryClose (s.transferred x)
  have told : (s.transferred x).tryClose.notices = (s.transferred x).notices := by
    rw [eq_patch_of_erase (F := [.stacker, .inbox]) (erase_tryClose (s.transferred x) (by decide))]
    rfl
  cases s.stacker.fingers with
  | none => exact ⟨closed, fun h => waiting_stackMarked (told ▸ h)⟩
  | some f =>
    refine ⟨(core_endTest _ _).trans closed, fun h => waiting_stackMarked ?_⟩
    show tget ((s.transferred x).tryClose.endTest f.id).notices.waiting srcStackOut = true
    rw [eq_patch_of_erase (F := [.stacker, .inbox]) (erase_endTest (s.transferred x).tryClose f.id (by decide))]
    exact told ▸ h

/-- Settles O33. -/
theorem transferDoneAndStackTaken : Obligations.TransferDoneAndStackTaken := by
  intro s quiet
  refine ⟨fun h => ?_, fun x hmode hx => ?_, fun hout => ?_, fun e l hout => ⟨fun h => ?_, fun hmode hline hroom => ?_⟩⟩
  · have idle : quiet.takeTransferDone = quiet := State.takeTransferDone_idle h
    exact (run_quiet s State.takeTransferDone (by rw [idle])).trans (by rw [idle])
  · obtain ⟨core, told⟩ := State.takeTransferDone_core (s := quiet) hmode hx
    simp only [Stacker.core, Prod.mk.injEq] at core
    obtain ⟨-, -, table, fingers, out⟩ := core
    refine ⟨quiet.takeTransferDone, rfl, ?_, out, fingers, table, fun hlevel => told (Notices.waiting_occur _ hlevel)⟩
    refine eq_patch_of_erase (F := [.stacker, .notices, .inbox]) ?_
    rw [erase_takeTransferDone _ (by decide), erase_with_inbox _ _ (by decide)]
  · have nothing : quiet.takeStackTaken = quiet := by simp only [State.takeStackTaken, show quiet.stacker.out = [] from hout]
    exact (run_quiet s State.takeStackTaken (by rw [nothing])).trans (by rw [nothing])
  · have taken : quiet.takeStackTaken = ({ quiet with stacker := { s.stacker with out := l } } : State).mark srcStacker := by
      simp only [State.takeStackTaken, show quiet.stacker.out = e :: l from hout]
      rw [if_neg (fun hb => h.elim (fun hm => hm hb.1) hb.2), State.stackMarked_of_length]
      · simp [quiet, hout]
    exact (run_quiet s State.takeStackTaken (by rw [taken]; rfl)).trans (by rw [taken])
  · have taken : quiet.takeStackTaken = ({ quiet with stacker := { s.stacker with
        out := l, mode := .transferring, transfer := true } } : State).mark srcStacker := by
      simp only [State.takeStackTaken, show quiet.stacker.out = e :: l from hout]
      rw [if_pos ⟨hmode, hline⟩, State.startTransfer, if_pos ⟨hline, hroom⟩, State.stackMarked_of_length]
      simp [quiet, hout]
    exact (run_quiet s State.takeStackTaken (by rw [taken]; rfl)).trans (by rw [taken])

end Sys2Proof.Machine

/-! The Slitter Pair: what its operations do to a station, and the statements about them (O30, O31). -/

namespace Sys2Proof.Machine

/-! ### Replacing a station -/

@[simp] theorem Slitter.station_setStation (p : Slitter) (st : Station) (r : StationRec) : (p.setStation st r).station st = r := by
  cases st <;> rfl

theorem Slitter.station_setStation_of_ne (p : Slitter) {st k : Station} (r : StationRec) (h : k ≠ st) :
    (p.setStation st r).station k = p.station k := by
  cases st <;> cases k
  · exact absurd rfl h
  · rfl
  · rfl
  · exact absurd rfl h

theorem Station.other_ne (st : Station) : Station.other st ≠ st := by cases st <;> nofun

@[simp] theorem stationOfCode_code (st : Station) : Station.ofCode (Station.code st) = some st := by cases st <;> rfl

@[simp] theorem awaited_setStation (p : Slitter) (st : Station) (r : StationRec) : (p.setStation st r).awaited = p.awaited := by
  cases st <;> rfl

@[simp] theorem incoming_setStation (p : Slitter) (st : Station) (r : StationRec) : (p.setStation st r).incoming = p.incoming := by
  cases st <;> rfl

@[simp] theorem State.station_updStation (s : State) (st : Station) (f : StationRec → StationRec) :
    (s.updStation st f).slitter.station st = f (s.slitter.station st) := Slitter.station_setStation _ _ _

theorem State.station_updStation_of_ne (s : State) {st k : Station} (f : StationRec → StationRec) (h : k ≠ st) :
    (s.updStation st f).slitter.station k = s.slitter.station k := Slitter.station_setStation_of_ne _ _ h

/-- The awaited swap and its incoming station. -/
def Slitter.swap (p : Slitter) : Option SetRec × Option Station := (p.awaited, p.incoming)

@[simp] theorem State.swap_updStation (s : State) (st : Station) (f : StationRec → StationRec) :
    (s.updStation st f).slitter.swap = s.slitter.swap := by
  simp [State.updStation, Slitter.swap]

theorem slitActs_iff (s : State) : s.slitActs = true ↔ s.gov.mode ≠ .estopped ∧ s.gov.mode ≠ .unconfigured := by
  simp [State.slitActs]

/-- R64: the station that has loaded a set. -/
def State.loaded (s : State) (r : SetRec) : StationRec :=
  { state := .setting, set := some r, timer := some s.dry.setTime, slitHeads := headTargets 8 r.slits,
    scoreHeads := headTargets 12 r.scores }

theorem State.load_eq (s : State) (st : Station) (r : SetRec) :
    s.load st r = if s.slitActs = true ∧ s.stationState st ≠ .fault ∧ s.stationState st ≠ .engaged then
      s.updStation st (fun _ => s.loaded r) else s := rfl

theorem State.swap_load (s : State) (st : Station) (r : SetRec) : (s.load st r).slitter.swap = s.slitter.swap := by
  rw [State.load_eq]
  split
  · exact s.swap_updStation _ _
  · rfl

/-! ### The standby (R67) -/

/-- What setting the standby can do to a station: leave it, send it to IDLE, give its set another order's id, or load it. -/
inductive StationRec.Standby (x : StationRec) : StationRec → Prop
  | left : Standby x x
  | rested (h : x.state = .setting ∨ x.state = .ready) : Standby x x.toIdle
  | named (id : Nat) (h : x.set.isSome = true) : Standby x { x with set := x.set.map (fun r => { r with id := id }) }
  | loads {y : StationRec} (hy : y.state = .setting) (hf : x.state ≠ .fault) (he : x.state ≠ .engaged) : Standby x y

/-- A change of one station, seen at any station. -/
theorem StationRec.Standby.upd {s : State} {st : Station} {f : StationRec → StationRec}
    (h : (s.slitter.station st).Standby (f (s.slitter.station st))) (k : Station) :
    (s.slitter.station k).Standby ((s.updStation st f).slitter.station k) := by
  by_cases hk : k = st
  · rw [hk, State.station_updStation]
    exact h
  · rw [State.station_updStation_of_ne _ _ hk]
    exact .left

theorem State.station_restStandby (s : State) (st k : Station) :
    (s.slitter.station k).Standby ((s.restStandby st).slitter.station k) := by
  unfold State.restStandby
  split
  · next h => exact .upd (.rested h) k
  · exact .left

theorem State.station_load (s : State) (st k : Station) (r : SetRec) :
    (s.slitter.station k).Standby ((s.load st r).slitter.station k) := by
  rw [State.load_eq]
  split
  · next h => exact .upd (.loads rfl h.2.1 h.2.2) k
  · exact .left

theorem State.set_isSome_of_holds {s : State} {st : Station} {r : SetRec} (h : s.holds st r = true) :
    (s.slitter.station st).set.isSome = true := by
  unfold State.holds at h
  split at h
  · next hx => rw [hx]; rfl
  · cases h

theorem State.station_setStandby (s : State) (k : Station) : (s.slitter.station k).Standby (s.setStandby.slitter.station k) := by
  simp only [State.setStandby]
  split
  · exact .left
  split
  · exact .left
  next st _ =>
  split
  · exact s.station_restStandby st k
  · split_ifs with hcarried hfault hholds
    · exact s.station_restStandby st k
    · exact .left
    · exact .upd (.named _ (State.set_isSome_of_holds hholds)) k
    · exact s.station_load st k _

theorem State.swap_restStandby (s : State) (st : Station) : (s.restStandby st).slitter.swap = s.slitter.swap := by
  unfold State.restStandby
  split
  · exact s.swap_updStation _ _
  · rfl

theorem State.swap_setStandby (s : State) : s.setStandby.slitter.swap = s.slitter.swap := by
  simp only [State.setStandby]
  split
  · rfl
  split
  · rfl
  next st _ =>
  split
  · exact s.swap_restStandby st
  · split_ifs
    · exact s.swap_restStandby st
    · rfl
    · exact s.swap_updStation _ _
    · exact s.swap_load _ _

/-- An ENGAGED station stays as it is, but for the id in its set record. -/
theorem StationRec.Standby.of_engaged {x y : StationRec} (h : x.Standby y) (hx : x.state = .engaged) :
    y.state = .engaged ∧ y.timer = x.timer := by
  cases h with
  | left => exact ⟨hx, rfl⟩
  | rested h => rcases h with h | h <;> rw [hx] at h <;> cases h
  | named id h => exact ⟨hx, rfl⟩
  | loads hy hf he => exact absurd hx he

/-- An IDLE station stays as it is, or loads. -/
theorem StationRec.Standby.of_toIdle {x y : StationRec} (h : x.toIdle.Standby y) : y = x.toIdle ∨ y.state = .setting := by
  cases h with
  | left => exact .inl rfl
  | rested h => rcases h with h | h <;> cases h
  | named id h => cases h
  | loads hy hf he => exact .inr hy

/-! ### SET DONE and the set timer (R65, R70) -/

theorem State.slitter_engageFor (s : State) (st : Station) :
    (s.engageFor st).slitter =
      { (s.slitter.setStation st { s.slitter.station st with state := .engaged, timer := none }) with
        awaited := none, incoming := none } := by
  simp only [State.engageFor]
  have frame := erase_closeSpan { s.updStation st (fun x => { x with state := .engaged, timer := none }) with
    slitter := { (s.updStation st (fun x => { x with state := .engaged, timer := none })).slitter with
      awaited := none, incoming := none } } .slitter (s.tracker.pos.plus s.dSlit) (F := [.map, .inbox, .choice]) (by decide)
  rw [eq_patch_of_erase frame]
  rfl

/-- R78: a station that leaves SETTING marks SLITTER. -/
theorem State.slitMarked_of_state {s t : State} {st : Station} (h : s.stationState st ≠ t.stationState st) :
    s.slitMarked t = t.mark srcSlitter := by
  rw [State.slitMarked, decide_eq_false]
  · rfl
  · intro e
    simp only [Slitter.marks, Prod.mk.injEq] at e
    obtain ⟨ha, hb, -, -⟩ := e
    cases st
    · exact h ha
    · exact h hb

theorem State.slitter_slitMarked (s t : State) : (s.slitMarked t).slitter = t.slitter := by
  unfold State.slitMarked State.markIf
  split <;> rfl

/-- R65: SET DONE at a station in SETTING. -/
theorem State.takeSetDone_setting {s : State} {st : Station} (h : s.stationState st = .setting) :
    s.takeSetDone st = s.slitMarked
      (if s.slitter.awaited.isSome = true ∧ s.slitter.incoming = some st ∧ s.slitActs = true then
        ((s.updStation st (fun x => { x with state := .ready, timer := none })).engageFor st).setStandby
      else s.updStation st (fun x => { x with state := .ready, timer := none })) := by
  simp only [State.takeSetDone, h, if_true]

/-- R65: the set timer of a station in SETTING that no swap waits for. -/
theorem State.takeSetExpiry_free {s : State} {st : Station} (h : s.stationState st = .setting)
    (hw : ¬(s.slitter.awaited.isSome = true ∧ s.slitter.incoming = some st)) :
    s.takeSetExpiry st = (s.updStation st (fun x => { x with state := .fault, timer := none })).mark srcSlitter := by
  have marked : s.slitMarked (s.updStation st (fun x => { x with state := .fault, timer := none })) =
      (s.updStation st (fun x => { x with state := .fault, timer := none })).mark srcSlitter :=
    State.slitMarked_of_state (st := st) (by rw [h, State.stationState, State.station_updStation]; nofun)
  simp only [State.takeSetExpiry, h, if_true]
  cases hs : s.slitter.awaited with
  | none => exact marked
  | some w =>
    have hi : ¬s.slitter.incoming = some st := fun hi => hw ⟨by rw [hs]; rfl, hi⟩
    simp only [hi, if_false]
    exact marked

/-- R70: the set timer of the incoming station of an awaited swap. -/
theorem State.takeSetExpiry_awaited {s : State} {st : Station} {w : SetRec} (h : s.stationState st = .setting)
    (hw : s.slitter.awaited = some w) (hi : s.slitter.incoming = some st) :
    s.takeSetExpiry st = s.slitMarked
      (let s1 := s.updStation st (fun x => { x with state := .fault, timer := none })
      if s.stationState (Station.other st) ≠ .engaged ∧ s.stationState (Station.other st) ≠ .fault then
        State.load { s1 with slitter := { s1.slitter with incoming := some (Station.other st) } } (Station.other st) w
      else { s1 with slitter := { s1.slitter with incoming := none } }) := by
  have other : (s.updStation st (fun x => { x with state := .fault, timer := none })).stationState (Station.other st) =
      s.stationState (Station.other st) := by
    rw [State.stationState, State.station_updStation_of_ne _ _ (Station.other_ne st)]
    rfl
  simp only [State.takeSetExpiry, h, hw, hi, if_true, other]

theorem erase_quietEnd (s : State) {F : List Part} (h : [.limits, .notices, .link] ⊆ F) : s.quietEnd.erase F = s.erase F := by
  simp only [List.cons_subset, List.nil_subset, and_true] at h
  simp [State.quietEnd, h]

theorem State.slitter_quietEnd (s : State) : s.quietEnd.slitter = s.slitter := by
  rw [eq_patch_of_erase (F := [.limits, .notices, .link]) (erase_quietEnd s (by decide))]
  rfl

/-- R70: what the set timer of the incoming station leaves, where the other station takes the awaited swap over. -/
theorem State.slitter_expiry_handed {s : State} {st : Station} {w : SetRec} (h : s.stationState st = .setting)
    (hw : s.slitter.awaited = some w) (hi : s.slitter.incoming = some st)
    (ho : s.stationState (Station.other st) ≠ .engaged ∧ s.stationState (Station.other st) ≠ .fault) :
    let p := (s.takeSetExpiry st).slitter
    p.station st = { s.slitter.station st with state := .fault, timer := none } ∧ p.awaited = some w ∧
      p.incoming = some (Station.other st) ∧ (s.slitActs = true → p.station (Station.other st) = s.loaded w) := by
  intro p
  have hp : p = (State.load { (s.updStation st (fun x => { x with state := .fault, timer := none })) with
      slitter := { (s.updStation st (fun x => { x with state := .fault, timer := none })).slitter with
        incoming := some (Station.other st) } } (Station.other st) w).slitter := by
    show (s.takeSetExpiry st).slitter = _
    rw [State.takeSetExpiry_awaited h hw hi, State.slitter_slitMarked]
    dsimp only
    rw [if_pos ho]
  rw [State.load_eq] at hp
  split at hp
  · next hl =>
    rw [hp]
    cases st
    · exact ⟨rfl, hw, rfl, fun _ => rfl⟩
    · exact ⟨rfl, hw, rfl, fun _ => rfl⟩
  · next hl =>
    rw [hp]
    have idle : ¬s.slitActs = true := by
      intro ha
      refine hl ⟨ha, ?_⟩
      cases st
      · exact ⟨ho.2, ho.1⟩
      · exact ⟨ho.2, ho.1⟩
    cases st
    · exact ⟨rfl, hw, rfl, fun ha => absurd ha idle⟩
    · exact ⟨rfl, hw, rfl, fun ha => absurd ha idle⟩

/-- R70: what it leaves where the other station cannot. -/
theorem State.slitter_expiry_alone {s : State} {st : Station} {w : SetRec} (h : s.stationState st = .setting)
    (hw : s.slitter.awaited = some w) (hi : s.slitter.incoming = some st)
    (ho : ¬(s.stationState (Station.other st) ≠ .engaged ∧ s.stationState (Station.other st) ≠ .fault)) :
    (s.takeSetExpiry st).slitter =
      { (s.slitter.setStation st { s.slitter.station st with state := .fault, timer := none }) with incoming := none } := by
  rw [State.takeSetExpiry_awaited h hw hi, State.slitter_slitMarked]
  dsimp only
  rw [if_neg ho]
  rfl

/-- Settles O30. -/
theorem setDoneAndSetExpiry : Obligations.SetDoneAndSetExpiry := by
  intro st s other awaits acts quiet
  have acts_iff : quiet.slitActs = true ↔ acts := slitActs_iff quiet
  refine ⟨fun h => ⟨?_, ?_⟩, fun h => ⟨fun hn => ?_, fun haw hac => ?_, fun hn => ?_, fun haw => ?_⟩⟩
  · have nothing : quiet.takeSetDone st = quiet := if_neg h
    exact (run_quiet s (fun t => t.takeSetDone st) (by rw [nothing])).trans (by rw [nothing])
  · have nothing : quiet.takeSetExpiry st = quiet := if_neg h
    exact (run_quiet s (fun t => t.takeSetExpiry st) (by rw [nothing])).trans (by rw [nothing])
  · have ready : quiet.takeSetDone st = (quiet.updStation st (fun x => { x with state := .ready, timer := none })).mark srcSlitter := by
      rw [State.takeSetDone_setting (s := quiet) h, if_neg (fun hp => hn ⟨⟨hp.1, hp.2.1⟩, acts_iff.mp hp.2.2⟩)]
      refine State.slitMarked_of_state (st := st) ?_
      rw [show quiet.stationState st = .setting from h, State.stationState, State.station_updStation]
      nofun
    exact (run_quiet s (fun t => t.takeSetDone st) (by rw [ready]; rfl)).trans (by rw [ready])
  · have engages : quiet.takeSetDone st = quiet.slitMarked
        ((quiet.updStation st (fun x => { x with state := .ready, timer := none })).engageFor st).setStandby := by
      rw [State.takeSetDone_setting (s := quiet) h, if_pos ⟨haw.1, haw.2, acts_iff.mpr hac⟩]
    have slitter := State.slitter_engageFor (quiet.updStation st (fun x => { x with state := .ready, timer := none })) st
    have swap := State.swap_setStandby ((quiet.updStation st (fun x => { x with state := .ready, timer := none })).engageFor st)
    have station := State.station_setStandby ((quiet.updStation st (fun x => { x with state := .ready, timer := none })).engageFor st) st
    rw [slitter] at swap station
    simp only [Slitter.swap, Prod.mk.injEq] at swap
    have engaged := station.of_engaged (by cases st <;> rfl)
    refine ⟨quiet.takeSetDone st, rfl, ?_, ?_, ?_, ?_, ?_⟩
    · refine eq_patch_of_erase (F := [.slitter, .map, .notices, .inbox, .choice]) ?_
      rw [erase_takeSetDone _ _ (by decide), erase_with_inbox _ _ (by decide)]
    · rw [engages, State.slitter_slitMarked, swap.1]
    · rw [engages, State.slitter_slitMarked, swap.2]
    · rw [engages, State.slitter_slitMarked, engaged.1]
    · rw [engages, State.slitter_slitMarked, engaged.2]
      cases st <;> rfl
  · have fault := State.takeSetExpiry_free (s := quiet) h hn
    exact (run_quiet s (fun t => t.takeSetExpiry st) (by rw [fault]; rfl)).trans (by rw [fault])
  · obtain ⟨hsome, hi⟩ := haw
    obtain ⟨w, hw⟩ := Option.isSome_iff_exists.mp hsome
    have expired := State.takeSetExpiry_awaited (s := quiet) h hw hi
    have still : (quiet.takeSetExpiry st).inbox = [] := by
      rw [eq_patch_of_erase (F := [.slitter, .notices]) (erase_takeSetExpiry quiet st (by decide))]
      rfl
    have hne : other ≠ st := Station.other_ne st
    refine ⟨_, run_quiet s (fun t => t.takeSetExpiry st) still, ?_, ?_⟩
    · refine eq_patch_of_erase (F := [.slitter, .limits, .notices, .link]) ?_
      rw [erase_quietEnd _ (by decide), erase_takeSetExpiry _ _ (by decide)]
    · rw [State.slitter_quietEnd]
      show _ ∧ _ ∧ (quiet.takeSetExpiry st).slitter.awaited = _ ∧ _
      by_cases ho : s.stationState other ≠ .engaged ∧ s.stationState other ≠ .fault
      · obtain ⟨station, awaited, incoming, loads⟩ := State.slitter_expiry_handed (s := quiet) h hw hi ho
        refine ⟨congrArg StationRec.state station, congrArg StationRec.timer station, awaited.trans hw.symm,
          fun hb => absurd ho (by rcases hb with hb | hb <;> simp [hb]), fun _ _ => ⟨incoming, fun hac => ?_⟩⟩
        have loaded := loads (acts_iff.mpr hac)
        exact ⟨congrArg StationRec.state loaded, (congrArg StationRec.set loaded).trans hw.symm, congrArg StationRec.timer loaded⟩
      · have alone := State.slitter_expiry_alone (s := quiet) h hw hi ho
        have station (k : Station) : (quiet.takeSetExpiry st).slitter.station k =
            (s.slitter.setStation st { s.slitter.station st with state := .fault, timer := none }).station k := by
          rw [alone]
          cases k <;> rfl
        refine ⟨?_, ?_, ?_, fun _ => ⟨by rw [alone], ?_⟩, fun he hf => absurd ⟨he, hf⟩ ho⟩
        · rw [station, Slitter.station_setStation]
        · rw [station, Slitter.station_setStation]
        · rw [alone]
          exact awaited_setStation _ _ _
        · rw [station, Slitter.station_setStation_of_ne _ _ hne]

/-! ### CLEAR_STATION (R75) -/

theorem stationOfCode_of_le {k : Nat} (h : 2 ≤ k) : Station.ofCode k = none := by
  obtain ⟨b, rfl⟩ := Nat.exists_eq_add_of_le h
  rw [Nat.add_comm]
  rfl

/-- R75: the state of a CLEAR_STATION, but for the SLITTER mark. -/
def State.stationCleared (s : State) (st : Station) : State :=
  let s1 := s.updStation st StationRec.toIdle
  match s.slitter.awaited, s.slitter.incoming with
  | some w, none => State.load { s1 with slitter := { s1.slitter with incoming := some st } } st w
  | _, _ => s1.setStandby

theorem State.reqClearStation_code (s : State) (st : Station) :
    s.reqClearStation (Station.code st) =
      if s.gov.mode = .unconfigured ∨ s.stationState st ≠ .fault then (s, .just .wrongMode)
      else (s.slitMarked (s.stationCleared st), .okWith (u8 (Station.code st) ++ [0])) := by
  simp only [State.reqClearStation, stationOfCode_code, State.stationCleared] <;> rfl

/-- R75: with a swap awaited and no incoming station, the station cleared becomes it and loads the awaited set. -/
theorem State.slitter_stationCleared_serves {s : State} {st : Station} {w : SetRec} (hw : s.slitter.awaited = some w)
    (hi : s.slitter.incoming = none) :
    let p := (s.stationCleared st).slitter
    p.awaited = some w ∧ p.incoming = some st ∧ p.station (Station.other st) = s.slitter.station (Station.other st) ∧
      p.station st = if s.slitActs = true then s.loaded w else (s.slitter.station st).toIdle := by
  intro p
  have hp : p = (State.load { (s.updStation st StationRec.toIdle) with
      slitter := { (s.updStation st StationRec.toIdle).slitter with incoming := some st } } st w).slitter := by
    show (s.stationCleared st).slitter = _
    simp only [State.stationCleared, hw, hi]
  rw [State.load_eq] at hp
  split_ifs at hp with hl
  · rw [hp, show (if s.slitActs = true then s.loaded w else (s.slitter.station st).toIdle) = s.loaded w from if_pos hl.1]
    cases st
    · exact ⟨hw, rfl, rfl, rfl⟩
    · exact ⟨hw, rfl, rfl, rfl⟩
  · have idle : ¬s.slitActs = true := by
      intro ha
      refine hl ⟨ha, ?_⟩
      cases st
      · exact ⟨nofun, nofun⟩
      · exact ⟨nofun, nofun⟩
    rw [hp, if_neg idle]
    cases st
    · exact ⟨hw, rfl, rfl, rfl⟩
    · exact ⟨hw, rfl, rfl, rfl⟩

/-- R75: else the standby is set. -/
theorem State.stationCleared_standby {s : State} {st : Station} (h : ¬∃ w, s.slitter.awaited = some w ∧ s.slitter.incoming = none) :
    s.stationCleared st = (s.updStation st StationRec.toIdle).setStandby := by
  simp only [State.stationCleared]
  split
  · next w hw hi => exact absurd ⟨w, hw, hi⟩ h
  · rfl

theorem State.station_stationCleared (s : State) (st : Station) :
    (s.stationCleared st).slitter.awaited = s.slitter.awaited ∧
      ((s.stationCleared st).slitter.station st = (s.slitter.station st).toIdle ∨
        ((s.stationCleared st).slitter.station st).state = .setting) := by
  by_cases h : ∃ w, s.slitter.awaited = some w ∧ s.slitter.incoming = none
  · obtain ⟨w, hw, hi⟩ := h
    obtain ⟨awaited, -, -, station⟩ := State.slitter_stationCleared_serves (st := st) hw hi
    refine ⟨awaited.trans hw.symm, ?_⟩
    rw [station]
    split
    · exact .inr rfl
    · exact .inl rfl
  · rw [State.stationCleared_standby h]
    have swap := State.swap_setStandby (s.updStation st StationRec.toIdle)
    have station := State.station_setStandby (s.updStation st StationRec.toIdle) st
    rw [State.swap_updStation] at swap
    rw [State.station_updStation] at station
    exact ⟨congrArg Prod.fst swap, station.of_toIdle⟩

/-- Settles O31. -/
theorem clearStationIdlesAndServes : Obligations.ClearStationIdlesAndServes := by
  intro tag s h
  refine ⟨fun k hk => ?_, fun st => ?_⟩
  · refine run_just (owner := fun t => t.reqClearStation k) (by decide) ?_ rfl
    simp only [State.reqClearStation, stationOfCode_of_le hk]
    rfl
  have owner := h.reqClearStation_code st
  refine ⟨fun hr => run_just (owner := fun t => t.reqClearStation (Station.code st)) (by decide) (owner.trans (if_pos hr)) rfl,
    fun hu hf => ?_⟩
  have done := owner.trans (if_neg (fun hr => hr.elim hu (fun hn => hn hf)))
  have frame : (h.slitMarked (h.stationCleared st)).erase [.slitter, .notices] = h.erase [.slitter, .notices] := by
    have := erase_reqClearStation h (Station.code st) (F := [.slitter, .notices]) (by decide)
    rwa [done] at this
  have whole := eq_patch_of_erase frame
  obtain ⟨awaited, station⟩ := h.station_stationCleared st
  refine ⟨_, run_okWith (owner := fun t => t.reqClearStation (Station.code st)) (by decide) done (by rw [whole]; rfl), whole, ?_⟩
  rw [State.slitter_slitMarked]
  refine ⟨awaited, ?_, fun hidle => ?_, fun w hw hi => ?_⟩
  · exact station.imp (congrArg StationRec.state) id
  · rcases station with station | hset
    · rw [station]
      exact ⟨rfl, rfl⟩
    · rw [hidle] at hset
      cases hset
  · obtain ⟨-, incoming, other, hst⟩ := State.slitter_stationCleared_serves (s := h) (st := st) hw hi
    refine ⟨incoming, other, fun he => ?_, fun he => ?_⟩
    · rw [hst, if_neg (fun ha => ((slitActs_iff h).mp ha).1 he)]
      rfl
    · rw [hst, if_pos ((slitActs_iff h).mpr ⟨he, hu⟩)]
      exact ⟨rfl, rfl, rfl, rfl, rfl⟩

end Sys2Proof.Machine

/-! The Cutoff Unit: the KNIFE limit, the knife's requests and the cut, and the statements about them (O27 to O29). -/

namespace Sys2Proof.Machine

/-! ### The KNIFE limit (R57, R58) -/

@[simp] theorem limits_refreshLimits (s : State) : s.refreshLimits.limits = s.limitsNow := by
  simp only [State.refreshLimits, State.markIf]
  (repeat' split) <;> rfl

/-- R58: the limits of a configured line whose knife is READY. -/
theorem State.knifeLimit_ready {s : State} (hu : s.gov.mode ≠ .unconfigured) (hr : s.cutoff.ready = true) :
    s.knifeLimit =
      match s.cutoff.segment with
      | .none => none
      | .waste =>
        match s.cutoff.lastPassed.bind s.orderBeyond with
        | some o => some (min s.wasteValue (s.knifeValue o.spec.len))
        | none => some s.wasteValue
      | .order g =>
        match s.order? g.id with
        | none => none
        | some o =>
          if o.frozen then
            match nextOf g.id s.book.orders with
            | some x =>
              if x.start = o.stop then some (min (s.knifeValue o.spec.len) (s.knifeValue x.spec.len))
              else some (min (s.knifeValue o.spec.len) s.wasteValue)
            | none => some (min (s.knifeValue o.spec.len) s.wasteValue)
          else some (s.knifeValue o.spec.len) := by
  unfold State.knifeLimit
  rw [if_neg hu, hr]
  rfl

theorem knife_refreshLimits (s : State) : s.refreshLimits.limits.knife = s.knifeLimit := by rw [limits_refreshLimits]; rfl

/-- R58: a HELD knife holds the limit at 0. -/
theorem State.knifeLimit_held {s : State} (hu : s.gov.mode ≠ .unconfigured) (hr : s.cutoff.ready = false) :
    s.knifeLimit = some 0 := by
  unfold State.knifeLimit
  rw [if_neg hu, hr]
  rfl

/-- The Cutoff Unit's own record after a next cut is set: a registration is the tracker's. -/
theorem cutoff_register (s : State) (p : Purpose) (q : Pos) : (s.register p q).cutoff = s.cutoff := by
  unfold State.register
  split <;> rfl

theorem cutoff_setCut (s : State) (g : Segment) (p : Pos) : (s.setCut g p).cutoff = { s.cutoff with segment := g } :=
  cutoff_register _ _ _

theorem cutoff_enterWaste (s : State) (c : Pos) :
    (s.enterWaste c).cutoff = { s.cutoff with
      lastPassed := some c, kMin := s.dry.kMin, wasteLen := s.dry.wasteLen, segment := .waste, limitCpm := s.cpm,
      limitWaste := s.dry.wasteLen } := by
  have cpm : (s.wasteFrom c).cpm = s.cpm := by
    rw [State.cpm, cfg_of_erase (erase_wasteFrom s c (F := [.cutoff, .regs, .inbox]) (by decide)) (by decide)]
    rfl
  show ((s.wasteFrom c).cutoff.rate (s.wasteFrom c).cpm) = _
  rw [cpm, State.wasteFrom, cutoff_setCut]
  rfl

/-- Settles O27. -/
theorem knifeHoldReleaseAndCycle : Obligations.KnifeHoldReleaseAndCycle := by
  intro tag s
  refine ⟨fun hu => ⟨?_, ?_⟩, fun hu => ⟨⟨_, ?_, ?_, rfl⟩, ?_⟩, run_quiet s State.takeCycleExpiry rfl⟩
  · exact run_just (owner := State.reqHoldKnife) (by decide) (if_pos hu) rfl
  · exact run_just (owner := State.reqReleaseKnife) (by decide) (if_pos hu) rfl
  · exact run_okWith (owner := State.reqHoldKnife) (by decide) (if_neg hu) rfl
  · rw [knife_refreshLimits]
    exact State.knifeLimit_held hu rfl
  · exact run_okWith (owner := State.reqReleaseKnife) (by decide) (if_neg hu) rfl

/-- Settles O28. -/
theorem knifeValueFromSheetLength : Obligations.KnifeValueFromSheetLength := by
  refine ⟨fun s len => rfl, fun s g o hu hr hg ho hf => ?_, fun s g o hu hr hg ho hf => ⟨fun y hy hstart => ?_, fun hno => ?_⟩,
    fun s hu hr hw => ⟨fun hnone => ?_, fun o ho => ?_⟩, fun s => ?_, fun s => ⟨rfl, rfl⟩, fun s hmax => ?_, fun s hmax hlen hcpm => ?_⟩
  · simp only [knife_refreshLimits, State.knifeLimit_ready hu hr, hg, ho, hf, Bool.false_eq_true, if_false]
    rfl
  · simp only [knife_refreshLimits, State.knifeLimit_ready hu hr, hg, ho, hf, hy, hstart, if_true]
  · simp only [knife_refreshLimits, State.knifeLimit_ready hu hr, hg, ho, hf, if_true]
    cases hy : nextOf g.id s.book.orders with
    | none => rfl
    | some y => exact if_neg (hno y hy)
  · simp only [knife_refreshLimits, State.knifeLimit_ready hu hr, hw, hnone]
    rfl
  · simp only [knife_refreshLimits, State.knifeLimit_ready hu hr, hw, ho]
  · intro t
    by_cases h : ∃ c, s.cutoff.segment = .waste ∧ s.cutoff.lastPassed = some c
    · obtain ⟨c, hseg, hpassed⟩ := h
      have ht : t = s.enterWaste c := by
        show s.takeHeadStart = _
        simp only [State.takeHeadStart, hseg, hpassed]
      rw [ht, cutoff_enterWaste]
      exact ⟨rfl, rfl, fun _ _ _ => ⟨rfl, rfl⟩⟩
    · have ht : t = s.rateNow := by
        show s.takeHeadStart = _
        unfold State.takeHeadStart
        split
        · next c hseg hpassed => exact absurd ⟨c, hseg, hpassed⟩ h
        · rfl
      rw [ht]
      exact ⟨rfl, rfl, fun c hseg hpassed => absurd ⟨c, hseg, hpassed⟩ h⟩
  · rw [State.knifeValue, hmax]
    rfl
  · rw [State.wasteValue, State.knifeValue, hmax, hlen, hcpm]
    rfl

/-! ### A position passed (R45, R48 to R50) -/

/-- The events of a position passed: an order's start or position, and a next cut E has reached already. -/
def Ev.isPass : Ev → Bool
  | .startReport _ => true
  | .positionReport _ _ => true
  | .crossing .cut _ => true
  | _ => false

/-- What a position passed leaves of what waited, and what it adds. -/
def PassInbox (before after : List Ev) : Prop :=
  ∃ l, after = before.filter (Ev.notFor .cut) ++ l ∧ ∀ e ∈ l, e.isPass = true

theorem PassInbox.setCut (s : State) (g : Segment) (p : Pos) : PassInbox s.inbox (s.setCut g p).inbox := by
  unfold State.setCut State.register
  split
  · exact ⟨[.crossing .cut p], rfl, by simp [Ev.isPass]⟩
  · exact ⟨[], (List.append_nil _).symm, nofun⟩

/-- A report of the position passed stands before the next cut. -/
theorem PassInbox.after_post {s : State} {e : Ev} {after : List Ev} (he : e.isPass = true) (hn : e.notFor .cut = true)
    (h : PassInbox (s.post e).inbox after) : PassInbox s.inbox after := by
  obtain ⟨l, hl, hpass⟩ := h
  refine ⟨e :: l, ?_, ?_⟩
  · rw [hl, State.post_inbox, List.filter_append, List.filter_cons_of_pos hn, List.append_assoc]
    rfl
  · rintro x (_ | ⟨_, hx⟩)
    · exact he
    · exact hpass x hx

/-- What a position passed does to the Cutoff Unit: the next cut is one of waste, with the K_MIN and WASTE_LEN of the section in force,
or a grid cut, with those that apply already (R45, log 49). -/
structure Cutoff.Passed (dry : DryEnd) (c : Pos) (k k' : Cutoff) : Prop where
  passed : k'.lastPassed = some c
  waste : k'.segment = .waste → k'.kMin = dry.kMin ∧ k'.wasteLen = dry.wasteLen
  order : ∀ g, k'.segment = .order g → k'.kMin = k.kMin ∧ k'.wasteLen = k.wasteLen
  kept : k' = { k with
    lastPassed := k'.lastPassed, segment := k'.segment, kMin := k'.kMin, wasteLen := k'.wasteLen, limitCpm := k'.limitCpm,
    limitWaste := k'.limitWaste }

theorem State.passed_wasteFrom (s : State) (c : Pos) : Cutoff.Passed s.dry c s.cutoff (s.wasteFrom c).cutoff := by
  rw [State.wasteFrom, cutoff_setCut]
  exact ⟨rfl, fun _ => ⟨rfl, rfl⟩, nofun, rfl⟩

theorem State.passed_enterWaste (s : State) (c : Pos) : Cutoff.Passed s.dry c s.cutoff (s.enterWaste c).cutoff := by
  rw [cutoff_enterWaste]
  exact ⟨rfl, fun _ => ⟨rfl, rfl⟩, nofun, rfl⟩

theorem State.passed_passStart {s : State} {c : Pos} (dry : DryEnd) (hc : s.cutoff.lastPassed = some c) (o : Order) :
    Cutoff.Passed dry c s.cutoff (s.passStart o).cutoff := by
  simp only [State.passStart, State.loadGrid]
  rw [cutoff_setCut]
  exact ⟨hc, nofun, fun _ _ => ⟨rfl, rfl⟩, rfl⟩

theorem State.inbox_passStart (s : State) (o : Order) : PassInbox s.inbox (s.passStart o).inbox :=
  .after_post rfl rfl (PassInbox.setCut (State.rateNow (s.post (.startReport o.spec.id))) _ _)

theorem State.inbox_wasteFrom (s : State) (c : Pos) : PassInbox s.inbox (s.wasteFrom c).inbox := PassInbox.setCut _ _ _

theorem State.inbox_enterWaste (s : State) (c : Pos) : PassInbox s.inbox (s.enterWaste c).inbox := s.inbox_wasteFrom c

/-- R48 to R50: what passing a position does to the Cutoff Unit and to what waits. -/
theorem State.passCut_spec (s : State) (c : Pos) :
    Cutoff.Passed s.dry c s.cutoff (s.passCut c).cutoff ∧ PassInbox s.inbox (s.passCut c).inbox := by
  have onto {t u : State} (h : Cutoff.Passed s.dry c t.cutoff u.cutoff) (ht : t.cutoff = { s.cutoff with lastPassed := some c }) :
      Cutoff.Passed s.dry c s.cutoff u.cutoff :=
    ⟨h.passed, h.waste, fun g hg => by have := h.order g hg; rwa [ht] at this, by have := h.kept; rwa [ht] at this⟩
  have waste (e : Ev) := onto (State.passed_enterWaste (State.post { s with cutoff := { s.cutoff with lastPassed := some c } } e) c) rfl
  simp only [State.passCut]
  split
  · next g hg =>
    split_ifs
    · split
      · next o ho =>
        split_ifs
        · exact ⟨onto (State.passed_passStart s.dry rfl o) rfl, .after_post rfl rfl (State.inbox_passStart _ o)⟩
        · exact ⟨waste _, .after_post rfl rfl (State.inbox_enterWaste _ c)⟩
      · exact ⟨waste _, .after_post rfl rfl (State.inbox_enterWaste _ c)⟩
    · refine ⟨?_, .after_post rfl rfl (PassInbox.setCut _ _ _)⟩
      rw [cutoff_setCut]
      exact ⟨rfl, nofun, fun _ _ => ⟨rfl, rfl⟩, rfl⟩
  · split
    · exact ⟨onto (State.passed_passStart s.dry rfl _) rfl, State.inbox_passStart _ _⟩
    · exact ⟨State.passed_wasteFrom s c, State.inbox_wasteFrom _ c⟩

/-! ### The cut (R52 to R55) -/

/-- The events of a cut: the sheet it closes, its reports, and the position passed. -/
def Ev.isCut : Ev → Bool
  | .sheet _ => true
  | .sheetReport _ _ _ _ => true
  | e => e.isPass

theorem Ev.isCut_of_isPass {e : Ev} (h : e.isPass = true) : e.isCut = true := by
  cases e with
  | sheet r => rfl
  | sheetReport id m cls long => rfl
  | _ => exact h

theorem Ev.notFor_freeze_of_isCut {e : Ev} (h : e.isCut = true) : e.notFor .freeze = true := by
  cases e with
  | crossing p q =>
    have hp : p ≠ .freeze := by
      rintro rfl
      cases h
    rw [Ev.notFor, decide_eq_false hp]
    rfl
  | _ => rfl

theorem Ev.ne_mapChange_of_isCut {e : Ev} (h : e.isCut = true) : e ≠ .mapChange := by
  rintro rfl
  cases h

/-- R53: the sheet closed at a position. -/
def State.sheetAt (s : State) (c : Pos) : Sheet :=
  { start := s.cutoff.lastCut, stop := c, cls := s.classAt c, covers := (s.openSheetAt c).1, wasteBoard := (s.openSheetAt c).2 }

theorem State.inbox_fireCut (s : State) (c : Pos) :
    ∃ l, (s.fireCut c).inbox = s.inbox ++ l ++ [.sheet (s.sheetAt c)] ∧ ∀ e ∈ l, ∃ id m cls long, e = .sheetReport id m cls long := by
  refine ⟨_, by simp only [State.fireCut, State.post_inbox, State.postAll_inbox]; rfl, fun e he => ?_⟩
  obtain ⟨k, -, rfl⟩ := List.mem_map.mp he
  exact ⟨_, _, _, _, rfl⟩

/-- R52 to R55: a cut, made or skipped, but for the pruning of the map. -/
def State.cutAt (s : State) (c : Pos) : State :=
  match s.skipCauseAt c with
  | some cause => (s.skipCut c cause).passCut c
  | none => (s.fireCut c).passCut c

/-- The cut on a state with nothing waiting, then all that waited. -/
def State.cutThenRest (s : State) (c : Pos) : State :=
  { State.cutAt { s with inbox := [] } c with
    inbox := (State.cutAt { s with inbox := [] } c).inbox ++ s.inbox.filter (Ev.notFor .cut) }

theorem State.takeCut_of_skip {s : State} {c : Pos} {cause : SkipCause} (h : s.skipCauseAt c = some cause) :
    s.takeCut c = s.cutThenRest c := by
  have hq : State.skipCauseAt { s with inbox := [] } c = some cause := h
  simp only [State.takeCut, h, State.cutThenRest, State.cutAt, hq, State.reportAhead]

theorem State.takeCut_of_fire {s : State} {c : Pos} (h : s.skipCauseAt c = none) : s.takeCut c = (s.cutThenRest c).prune c := by
  have hq : State.skipCauseAt { s with inbox := [] } c = none := h
  simp only [State.takeCut, h, State.cutThenRest, State.cutAt, hq, State.reportAhead]

/-- What a cut reports is about the cut alone. -/
theorem State.isCut_of_mem_cutAt {s : State} {c : Pos} {e : Ev} (he : e ∈ (State.cutAt { s with inbox := [] } c).inbox) :
    e.isCut = true := by
  unfold State.cutAt at he
  split at he
  · obtain ⟨l, hl, pass⟩ := (State.passCut_spec (State.skipCut { s with inbox := [] } c _) c).2
    rw [hl] at he
    exact Ev.isCut_of_isPass (pass e he)
  · obtain ⟨l, hl, pass⟩ := (State.passCut_spec (State.fireCut { s with inbox := [] } c) c).2
    obtain ⟨r, hr, reports⟩ := State.inbox_fireCut { s with inbox := [] } c
    rw [hl, hr] at he
    rcases List.mem_append.mp he with he | he
    · rcases List.mem_append.mp (List.mem_filter.mp he).1 with he | he
      · obtain ⟨id, m, cls, long, rfl⟩ := reports e he
        rfl
      · rw [List.mem_singleton.mp he]
        rfl
    · exact Ev.isCut_of_isPass (pass e he)

/-- R28: the report of a map change, where what stands first has no crossing of the freeze. -/
theorem State.reportMapChange_after {s : State} {first rest : List Ev} (h : s.inbox = first ++ rest)
    (hf : ∀ e ∈ first, e.notFor .freeze = true) :
    ∃ l r, rest = l ++ r ∧ s.reportMapChange.inbox = first ++ l ++ [.mapChange] ++ r ∧
      (r = [] ∨ (∀ e ∈ l, e.notFor .freeze = true) ∧ ∃ e r', r = e :: r' ∧ e.notFor .freeze = false) := by
  obtain ⟨l, r, choice, hin, heq, hside⟩ := s.reportMapChange_eq
  have inbox : s.reportMapChange.inbox = l ++ [.mapChange] ++ r := by rw [heq, List.append_assoc]; rfl
  rw [h, List.append_eq_append_iff] at hin
  rcases hin with ⟨m, hl, hrest⟩ | ⟨m, hfirst, hr⟩
  · refine ⟨m, r, hrest, by rw [inbox, hl], hside.imp_right fun hs => ⟨fun e he => hs.1 e ?_, hs.2⟩⟩
    rw [hl]
    exact List.mem_append_right _ he
  · cases m with
    | nil =>
      rw [List.append_nil] at hfirst
      rw [List.nil_append] at hr
      exact ⟨[], rest, rfl, by rw [inbox, hfirst, hr, List.append_nil], by rw [← hr]; exact hside.imp_right fun hs => ⟨nofun, hs.2⟩⟩
    | cons e m =>
      exfalso
      have free := hf e (by rw [hfirst]; exact List.mem_append_right _ (.head _))
      rcases hside with hs | ⟨-, e', r', hr', hn⟩
      · rw [hs] at hr
        cases hr
      · rw [hr, List.cons_append, List.cons.injEq] at hr'
        rw [← hr'.1, free] at hn
        cases hn

/-- R14: pruning, as one change of the spans and of what waits. -/
theorem State.prune_after {s : State} {first rest : List Ev} (c : Pos) (h : s.inbox = first ++ rest)
    (hf : ∀ e ∈ first, e.notFor .freeze = true) :
    (s.prune c).inbox = s.inbox ∧ (s.prune c).map.spans = s.map.spans ∨
      (s.prune c).map.spans ≠ s.map.spans ∧ ∃ l r, rest = l ++ r ∧ (s.prune c).inbox = first ++ l ++ [.mapChange] ++ r ∧
        (r = [] ∨ (∀ e ∈ l, e.notFor .freeze = true) ∧ ∃ e r', r = e :: r' ∧ e.notFor .freeze = false) := by
  simp only [State.prune, State.setSpans]
  split
  · exact .inl ⟨rfl, rfl⟩
  · next hne =>
    refine .inr ⟨by rw [State.spans_reportMapChange]; exact hne, ?_⟩
    exact State.reportMapChange_after (s := { s with map := _ }) h hf

/-- R28, R54, logs 3 and 17: where the reports of a cut and its map change stand. -/
theorem State.inbox_takeCut (s : State) (c : Pos) :
    ∃ changed l r : List Ev,
      (State.takeCut { s with inbox := [] } c).inbox = (State.cutAt { s with inbox := [] } c).inbox ++ changed ∧
      (changed = [] ∨ changed = [.mapChange]) ∧ s.inbox.filter (Ev.notFor .cut) = l ++ r ∧
      (s.takeCut c).inbox = (State.cutAt { s with inbox := [] } c).inbox ++ l ++ changed ++ r ∧
      (r = [] ∨ (∀ e ∈ l, e.notFor .freeze = true) ∧ ∃ e r', r = e :: r' ∧ e.notFor .freeze = false) := by
  have free : ∀ e ∈ (State.cutAt { s with inbox := [] } c).inbox, e.notFor .freeze = true :=
    fun e he => Ev.notFor_freeze_of_isCut (State.isCut_of_mem_cutAt he)
  cases h : s.skipCauseAt c with
  | some cause =>
    have hq : State.skipCauseAt { s with inbox := [] } c = some cause := h
    exact ⟨[], _, [], by rw [State.takeCut_of_skip hq]; rfl, .inl rfl, (List.append_nil _).symm,
      by rw [State.takeCut_of_skip h, List.append_nil, List.append_nil]; rfl, .inl rfl⟩
  | none =>
    have hq : State.skipCauseAt { s with inbox := [] } c = none := h
    rw [State.takeCut_of_fire h, State.takeCut_of_fire hq]
    have same : ((State.cutThenRest { s with inbox := [] } c).prune c).map.spans = ((s.cutThenRest c).prune c).map.spans := by
      rw [State.prune, State.prune, State.spans_setSpans, State.spans_setSpans]
      rfl
    rcases State.prune_after (s := State.cutThenRest { s with inbox := [] } c) c rfl free with ⟨ha, hm⟩ | ⟨hm, l', r', hnil, ha, -⟩
    · rcases State.prune_after (s := s.cutThenRest c) c rfl free with ⟨hb, -⟩ | ⟨hm', -⟩
      · exact ⟨[], _, [], ha, .inl rfl, (List.append_nil _).symm, by rw [hb, List.append_nil, List.append_nil]; rfl, .inl rfl⟩
      · exact absurd (same.symm.trans hm) hm'
    · rcases State.prune_after (s := s.cutThenRest c) c rfl free with ⟨-, hm'⟩ | ⟨-, l, r, hrest, hb, hside⟩
      · exact absurd (same.trans hm') hm
      · obtain ⟨rfl, rfl⟩ := List.append_eq_nil_iff.mp hnil.symm
        exact ⟨[.mapChange], l, r, by rw [ha, List.append_nil, List.append_nil], .inr rfl, hrest, hb, hside⟩

theorem State.cutoff_takeCut (s : State) (c : Pos) : (s.takeCut c).cutoff = (State.cutAt { s with inbox := [] } c).cutoff := by
  cases h : s.skipCauseAt c with
  | some cause => rw [State.takeCut_of_skip h]; rfl
  | none =>
    rw [State.takeCut_of_fire h, eq_patch_of_erase (F := [.map, .inbox, .choice]) (erase_prune (s.cutThenRest c) c (by decide))]
    rfl

/-- R45: what the position passed does to the record a cut leaves. -/
theorem State.passed_takeCut (s : State) (c : Pos) :
    (∃ cause, s.skipCauseAt c = some cause ∧
      Cutoff.Passed s.dry c (State.skipCut { s with inbox := [] } c cause).cutoff (s.takeCut c).cutoff) ∨
    s.skipCauseAt c = none ∧ Cutoff.Passed s.dry c (State.fireCut { s with inbox := [] } c).cutoff (s.takeCut c).cutoff := by
  rw [State.cutoff_takeCut, State.cutAt, show State.skipCauseAt { s with inbox := [] } c = s.skipCauseAt c from rfl]
  cases s.skipCauseAt c with
  | some cause => exact .inl ⟨cause, rfl, (State.passCut_spec (State.skipCut { s with inbox := [] } c cause) c).1⟩
  | none => exact .inr ⟨rfl, (State.passCut_spec (State.fireCut { s with inbox := [] } c) c).1⟩

/-- R55: a skip makes no sheet. -/
theorem State.sheet_mem_of_skip {s : State} {c : Pos} {cause : SkipCause} (h : s.skipCauseAt c = some cause) {r : Sheet}
    (hr : Ev.sheet r ∈ (s.takeCut c).inbox) : Ev.sheet r ∈ s.inbox := by
  obtain ⟨l, hl, pass⟩ := (State.passCut_spec (State.skipCut { s with inbox := [] } c cause) c).2
  have hq : State.skipCauseAt { s with inbox := [] } c = some cause := h
  rw [State.takeCut_of_skip h, State.cutThenRest, State.cutAt, hq] at hr
  rcases List.mem_append.mp hr with hr | hr
  · have hmem : Ev.sheet r ∈ l := by
      rw [hl] at hr
      exact hr
    cases pass _ hmem
  · exact (List.mem_filter.mp hr).1

/-- R53: a cut that fires hands its sheet on. -/
theorem State.sheet_mem_of_fire {s : State} {c : Pos} (h : s.skipCauseAt c = none) : Ev.sheet (s.sheetAt c) ∈ (s.takeCut c).inbox := by
  obtain ⟨changed, l, r, -, -, -, inbox, -⟩ := s.inbox_takeCut c
  obtain ⟨pass, hpass, -⟩ := (State.passCut_spec (State.fireCut { s with inbox := [] } c) c).2
  obtain ⟨reports, hreports, -⟩ := State.inbox_fireCut { s with inbox := [] } c
  have hq : State.skipCauseAt { s with inbox := [] } c = none := h
  have mem : Ev.sheet (s.sheetAt c) ∈ (State.cutAt { s with inbox := [] } c).inbox := by
    rw [State.cutAt, hq]
    dsimp only
    rw [hpass, hreports]
    exact List.mem_append_left _ (List.mem_filter.mpr ⟨List.mem_append_right _ (.head _), rfl⟩)
  rw [inbox]
  exact List.mem_append_left _ (List.mem_append_left _ (List.mem_append_left _ mem))

theorem addCover_ne_nil (id j : Nat) (final : Bool) (l : List Cover) : addCover id j final l ≠ [] := by
  unfold addCover
  split
  · nofun
  · split <;> nofun
  · nofun

/-- R53: a GOOD sheet is not covered, closes no open sheet, and its order still needs it. -/
theorem State.classAt_good {s : State} {c : Pos} (h : s.classAt c = .good) :
    s.isCovered s.cutoff.lastCut c = false ∧ s.cutoff.openSheet = [] ∧ s.cutoff.openWaste = false ∧
      ∃ (g : Grid) (o : Order), s.cutoff.segment = .order g ∧ s.order? g.id = some o ∧ g.g < OrderSpec.n o.spec := by
  simp only [State.classAt] at h
  split_ifs at h with hcov hlong
  cases hseg : s.cutoff.segment with
  | none => simp [hseg] at h
  | waste => simp [hseg] at h
  | order g =>
    have covers : (s.openSheetAt c).1.isEmpty = false := by
      simp only [State.openSheetAt, hseg]
      exact List.isEmpty_eq_false_iff.mpr (addCover_ne_nil _ _ _ _)
    have short : s.cutoff.openSheet = [] ∧ s.cutoff.openWaste = false := by
      simpa [covers, -List.isEmpty_eq_false_iff] using hlong
    rw [hseg] at h
    dsimp only at h
    cases ho : s.order? g.id with
    | none => simp [ho] at h
    | some o =>
      rw [ho] at h
      have needs : ¬OrderSpec.n o.spec ≤ g.g := by
        intro hn
        rw [if_pos hn] at h
        cases h
      exact ⟨Bool.eq_false_iff.mpr hcov, short.1, short.2, g, o, rfl, ho, Nat.lt_of_not_le needs⟩

theorem State.classAt_covered {s : State} {c : Pos} (h : s.isCovered s.cutoff.lastCut c = true) : s.classAt c = .reject := by
  simp only [State.classAt, h, if_true]

/-- R52: the causes of a skip, in their order. -/
theorem State.skipCauseAt_eq (s : State) (c : Pos) :
    s.skipCauseAt c =
      if ∃ p, s.cutoff.lastPassed = some p ∧ (c - p).toNat < s.cutoff.kMin then some .tooClose
      else if s.cutoff.ready = false then some .held
      else if s.cutoff.cycle.isSome = true then some .cycling
      else if s.gov.mode = .estopped then some .estopped
      else none := by
  unfold State.skipCauseAt
  cases s.cutoff.lastPassed with
  | none => simp
  | some p => simp

/-- Settles O29. -/
theorem cutFiresOrSkips : Obligations.CutFiresOrSkips := by
  intro s c t close skips
  have cause := s.skipCauseAt_eq c
  have record : t.cutoff.lastPassed = some c ∧
      (t.cutoff.segment = .waste → t.cutoff.kMin = s.dry.kMin ∧ t.cutoff.wasteLen = s.dry.wasteLen) ∧
      (∀ g, t.cutoff.segment = .order g → t.cutoff.kMin = s.cutoff.kMin ∧ t.cutoff.wasteLen = s.cutoff.wasteLen) := by
    rcases s.passed_takeCut c with ⟨cause, -, h⟩ | ⟨-, h⟩
    · exact ⟨h.passed, h.waste, h.order⟩
    · exact ⟨h.passed, h.waste, h.order⟩
  have skipped {k : SkipCause} (hk : s.skipCauseAt c = some k) : skips k := by
    rcases s.passed_takeCut c with ⟨cause, hc, h⟩ | ⟨hc, -⟩
    · cases hc.symm.trans hk
      have kept : t.cutoff = _ := h.kept
      refine ⟨?_, ?_, ?_, ?_, ?_, fun r hr => State.sheet_mem_of_skip hk hr⟩
      all_goals rw [kept]; rfl
    · rw [hc] at hk
      cases hk
  obtain ⟨record1, record2, record3⟩ := record
  refine ⟨record1, record2, record3, eq_patch_of_erase (F := [.cutoff, .regs, .map, .inbox, .choice]) (erase_takeCut s c (by decide)), ?_,
    fun hc => skipped (cause.trans (if_pos hc)),
    fun hc hh => skipped (cause.trans ((if_neg hc).trans (if_pos hh))),
    fun hc hh hy => skipped (cause.trans ((if_neg hc).trans ((if_neg (by rw [hh]; nofun)).trans (if_pos hy)))),
    fun hc hh hy he => skipped (cause.trans ((if_neg hc).trans ((if_neg (by rw [hh]; nofun)).trans
      ((if_neg (by rw [hy]; nofun)).trans (if_pos he))))), fun hc hh hy he => ?_⟩
  · obtain ⟨changed, l, r, quiet, hchanged, hrest, inbox, side⟩ := s.inbox_takeCut c
    exact ⟨_, changed, l, r, quiet, fun hm => Ev.ne_mapChange_of_isCut (State.isCut_of_mem_cutAt hm) rfl, hchanged, hrest, inbox, side⟩
  · have fires : s.skipCauseAt c = none := cause.trans ((if_neg hc).trans ((if_neg (by rw [hh]; nofun)).trans
      ((if_neg (by rw [hy]; nofun)).trans (if_neg he))))
    rcases s.passed_takeCut c with ⟨cause, hk, -⟩ | ⟨-, h⟩
    · rw [hk] at fires
      cases fires
    · have kept : t.cutoff = _ := h.kept
      refine ⟨?_, ?_, ?_, ?_, ?_, ?_, s.sheetAt c, State.sheet_mem_of_fire fires, rfl, rfl, State.classAt_covered, State.classAt_good⟩
      all_goals rw [kept]; rfl

end Sys2Proof.Machine

/-! The Splice Sequencer: what its operations do to the splice record of a stand, and the statements about PASTED, CUT, their failures,
SPLICE_NOW and CANCEL_SPLICE (O39, O41 to O43). -/

namespace Sys2Proof.Machine

/-! ### The splice record of a stand -/

@[simp] theorem State.setSpl_setSpl (s : State) (n : Stand) (r q : SpliceRec) : (s.setSpl n r).setSpl n q = s.setSpl n q := by
  simp [State.setSpl, tset]

theorem State.updSpl_eq (s : State) (n : Stand) (f : SpliceRec → SpliceRec) : s.updSpl n f = s.setSpl n (f (s.spl n)) := rfl

@[simp] theorem State.spl_updSpl (s : State) (n : Stand) (f : SpliceRec → SpliceRec) : (s.updSpl n f).spl n = f (s.spl n) :=
  State.spl_setSpl _ _ _

theorem State.spl_updSpl_other (s : State) {n k : Stand} (f : SpliceRec → SpliceRec) (h : k ≠ n) : (s.updSpl n f).spl k = s.spl k :=
  State.spl_setSpl_other _ _ h

theorem State.spl_of_erase {s t : State} {F : List Part} (h : t.erase F = s.erase F) (hF : .splice ∉ F) (n : Stand) :
    t.spl n = s.spl n := by
  have splice : t.splice = s.splice := by
    have := congrArg State.splice h
    rwa [State.erase, State.erase, if_neg hF, if_neg hF] at this
  rw [State.spl, splice, State.spl]

/-- PASTED finds a sequence in PASTE. -/
theorem State.takePasted_paste {s : State} {n : Stand} {q : Seq} (hq : (s.spl n).seq = some q) (hs : q.stage = .paste) :
    s.takePasted n = s.setSpl n { s.spl n with
      seq := some { q with stage := .cut, timer := some (s.standCfg n).tCut }, pasteCmd := none, cutCmd := true } := by
  simp only [State.takePasted, hq, hs, if_true]
  rfl

theorem State.takePasted_idle {s : State} {n : Stand} (h : ∀ q, (s.spl n).seq = some q → q.stage ≠ .paste) : s.takePasted n = s := by
  unfold State.takePasted
  split
  · rfl
  · next q hq => exact if_neg (h q hq)

/-- CUT finds a sequence in CUT. -/
theorem State.takeCutInput_cut {s : State} {n : Stand} {q : Seq} (hq : (s.spl n).seq = some q) (hs : q.stage = .cut) :
    s.takeCutInput n = s.setSpl n { s.spl n with
      seq := some { q with stage := .transfer, timer := some (s.standCfg n).tTransfer }, cutCmd := false } := by
  simp only [State.takeCutInput, hq, hs, if_true]
  rfl

theorem State.takeCutInput_idle {s : State} {n : Stand} (h : ∀ q, (s.spl n).seq = some q → q.stage ≠ .cut) : s.takeCutInput n = s := by
  unfold State.takeCutInput
  split
  · rfl
  · next q hq => exact if_neg (h q hq)

/-- Settles O39. -/
theorem pastedAndCutAdvance : Obligations.PastedAndCutAdvance := by
  intro n s quiet
  have ends {i : State → State} {t : State} (h : i quiet = t) (ht : t.inbox = []) : s.run i = .next t.quietEnd := by
    rw [run_quiet s i (by rw [show i { s with inbox := [] } = t from h]; exact ht), show i { s with inbox := [] } = t from h]
  refine ⟨fun h => ends (i := fun t => t.takePasted n) (State.takePasted_idle h) rfl,
    fun h => ends (i := fun t => t.takeCutInput n) (State.takeCutInput_idle h) rfl, fun q hq => ⟨fun hs => ?_, fun hs => ?_⟩⟩
  · exact ends (i := fun t => t.takePasted n) (State.takePasted_paste (s := quiet) hq hs) rfl
  · exact ends (i := fun t => t.takeCutInput n) (State.takeCutInput_cut (s := quiet) hq hs) rfl

/-! ### The end of a sequence (R124) -/

theorem State.spl_endSeq (s : State) (n : Stand) (q : Seq) (o : SpliceOutcome) (laid : Option (Pos × Pos)) (w : Bool) :
    (s.endSeq n q o laid w).spl n =
      { s.spl n with seq := none, pasteCmd := none, cutCmd := false, last := some (s.spliceEndOf n q o laid) } :=
  s.spl_updSpl n (fun r => { r with seq := none, pasteCmd := none, cutCmd := false, last := some (s.spliceEndOf n q o laid) })

theorem State.spl_endSeq_other (s : State) {n k : Stand} (q : Seq) (o : SpliceOutcome) (laid : Option (Pos × Pos)) (w : Bool)
    (h : k ≠ n) : (s.endSeq n q o laid w).spl k = s.spl k :=
  s.spl_updSpl_other (n := n)
    (fun r => { r with seq := none, pasteCmd := none, cutCmd := false, last := some (s.spliceEndOf n q o laid) }) h

theorem State.inbox_endSeq (s : State) (n : Stand) (q : Seq) (o : SpliceOutcome) (laid : Option (Pos × Pos)) (w : Bool) :
    (s.endSeq n q o laid w).inbox =
      .owedWork n w :: (s.inbox.filter (Ev.notFor (.approach n))).filter (Ev.notFor (.spliceTrigger n)) := rfl

theorem State.notices_endSeq (s : State) (n : Stand) (q : Seq) (o : SpliceOutcome) (laid : Option (Pos × Pos)) (w : Bool) :
    (s.endSeq n q o laid w).notices = s.notices.occur (srcSpliceEnd n) (.spliceEnd (s.spliceEndOf n q o laid)) := rfl

/-- R124: what waits and is no crossing still waits. -/
theorem State.mem_inbox_endSeq {s : State} {e : Ev} (he : e ∈ s.inbox) (h : ∀ p, e.notFor p = true) (n : Stand) (q : Seq)
    (o : SpliceOutcome) (laid : Option (Pos × Pos)) (w : Bool) : e ∈ (s.endSeq n q o laid w).inbox :=
  List.mem_cons_of_mem _ (List.mem_filter.mpr ⟨List.mem_filter.mpr ⟨he, h _⟩, h _⟩)

/-! ### The MISMATCH span of a stand (R126) -/

/-- R126: after the opening the Sequencer holds a MISMATCH span open for the stand. -/
theorem State.spl_openMismatchTell (s : State) (n : Stand) (p : Pos) :
    (s.openMismatchTell n p).1.spl n = { s.spl n with mismatchOpen := true } := by
  simp only [State.openMismatchTell]
  split
  · next h => rw [← h]
  · rw [State.spl_updSpl, State.spl_of_erase (erase_openSpan _ _ _ _ (F := [.map, .inbox, .choice, .notices]) (by decide)) (by decide)]

theorem State.spl_openMismatchTell_other (s : State) {n k : Stand} (p : Pos) (hk : k ≠ n) :
    (s.openMismatchTell n p).1.spl k = s.spl k := by
  simp only [State.openMismatchTell]
  split
  · rfl
  · rw [State.spl_updSpl_other _ _ hk,
      State.spl_of_erase (erase_openSpan _ _ _ _ (F := [.map, .inbox, .choice, .notices]) (by decide)) (by decide)]

/-- R126, log 22: with room the span opened is told, its start as clamped and its reach. -/
theorem State.openMismatchTell_tells {s : State} {n : Stand} {p : Pos} (hm : (s.spl n).mismatchOpen = false)
    (hg : s.cfg.geometry.isSome = true) (ho : s.openSpanOf (.stand n) = none) (hroom : s.map.spans.length < 48) :
    (s.openMismatchTell n p).2 = some (clampStart s.tracker.pos p, s.boardAt n) := by
  have grown : ¬(s.openSpan .mismatch (srcOf n) p).map.spans = s.map.spans := by
    intro e
    have length := congrArg List.length e
    rw [State.spans_openSpan (src := srcOf n) hg ho hroom, length_mapInsert] at length
    exact Nat.succ_ne_self _ length
  simp only [State.openMismatchTell, hm, Bool.false_eq_true, if_false, if_neg grown]

theorem State.spl_closeMismatch (s : State) (n : Stand) (p : Pos) :
    (s.closeMismatch n p).spl n = { s.spl n with mismatchOpen := false } := by
  unfold State.closeMismatch
  split
  · rw [State.spl_updSpl, State.spl_of_erase (erase_closeSpan _ _ _ (F := [.map, .inbox, .choice]) (by decide)) (by decide)]
  · next h => rw [← Bool.eq_false_iff.mpr h]

theorem State.spl_closeMismatch_other (s : State) {n k : Stand} (p : Pos) (hk : k ≠ n) : (s.closeMismatch n p).spl k = s.spl k := by
  unfold State.closeMismatch
  split
  · rw [State.spl_updSpl_other _ _ hk, State.spl_of_erase (erase_closeSpan _ _ _ (F := [.map, .inbox, .choice]) (by decide)) (by decide)]
  · rfl

/-! ### What a sequence owed, kept as a wait (R126, R128, R134) -/

theorem State.keepOwed_expiry {s : State} {q : Seq} (n : Stand) (h : q.kind = .expiry) :
    s.keepOwed n q = (s.updSpl n (fun r => { r with wait := .expiry }), none) := by
  simp only [State.keepOwed, h]

theorem State.keepOwed_plan {s : State} {q : Seq} {p : Plan} (n : Stand) (h : q.kind ≠ .expiry) (hp : q.plan = some p) :
    s.keepOwed n q =
      ((s.openMismatchTell n p.b).1.updSpl n (fun r => { r with wait := .plan p }), (s.openMismatchTell n p.b).2) := by
  unfold State.keepOwed
  cases hk : q.kind with
  | expiry => exact absurd hk h
  | planned => simp only [hp]
  | now => simp only [hp]

theorem State.keepOwed_nothing {s : State} {q : Seq} (n : Stand) (h : q.kind ≠ .expiry) (hp : q.plan = none) :
    s.keepOwed n q = (s, none) := by
  unfold State.keepOwed
  cases hk : q.kind with
  | expiry => exact absurd hk h
  | planned => simp only [hp]
  | now => simp only [hp]

theorem State.spl_keepOwed_expiry {s : State} {q : Seq} (n : Stand) (h : q.kind = .expiry) :
    (s.keepOwed n q).1.spl n = { s.spl n with wait := .expiry } := by
  rw [State.keepOwed_expiry n h, State.spl_updSpl]

theorem State.spl_keepOwed_plan {s : State} {q : Seq} {p : Plan} (n : Stand) (h : q.kind ≠ .expiry) (hp : q.plan = some p) :
    (s.keepOwed n q).1.spl n = { s.spl n with wait := .plan p, mismatchOpen := true } := by
  rw [State.keepOwed_plan n h hp, State.spl_updSpl, State.spl_openMismatchTell]

theorem State.spl_keepOwed_other {s : State} {n k : Stand} (q : Seq) (hk : k ≠ n) : (s.keepOwed n q).1.spl k = s.spl k := by
  by_cases h : q.kind = .expiry
  · rw [State.keepOwed_expiry n h, State.spl_updSpl_other _ _ hk]
  cases hp : q.plan with
  | none => rw [State.keepOwed_nothing n h hp]
  | some p => rw [State.keepOwed_plan n h hp, State.spl_updSpl_other _ _ hk, State.spl_openMismatchTell_other _ _ hk]

theorem State.failures_keepOwed (s : State) (n : Stand) (q : Seq) : ((s.keepOwed n q).1.spl n).failures = (s.spl n).failures := by
  by_cases h : q.kind = .expiry
  · rw [State.spl_keepOwed_expiry n h]
  cases hp : q.plan with
  | none => rw [State.keepOwed_nothing n h hp]
  | some p => rw [State.spl_keepOwed_plan n h hp]

/-! ### CANCEL_SPLICE (R134) -/

theorem State.reqCancelSplice_number (s : State) (n : Stand) :
    s.reqCancelSplice (Stand.number n) =
      if s.gov.mode = .unconfigured then (s, .just .wrongMode)
      else
        match (s.spl n).seq, (s.spl n).wait with
        | some q, _ =>
          if q.stage = .armed then (s.cancelArmed n q, cancelReply (some .armed) true)
          else (s.setSpl n { s.spl n with seq := some { q with cancelReq := true } }, cancelReply (some q.stage) false)
        | none, .expiry => (s.setSpl n { s.spl n with wait := .none }, cancelReply none false)
        | none, .plan _ => (s, .just .inUse)
        | none, .none =>
          if (s.spl n).expiryHeld then (s.setSpl n { s.spl n with expiryHeld := false }, cancelReply none false)
          else if (s.spl n).pendingPlan.isSome then (s, .just .inUse)
          else (s, .just .notFound) := by
  simp only [State.reqCancelSplice, standOfNumber_number, State.updSpl_eq, State.updSeq]
  refine if_congr .rfl rfl ?_
  cases hq : (s.spl n).seq with
  | some q => rfl
  | none => cases (s.spl n).wait <;> rfl

/-- Settles O43. -/
theorem cancelSpliceByStage : Obligations.CancelSpliceByStage := by
  intro tag s h
  refine ⟨fun k hk => run_just (owner := fun t => t.reqCancelSplice k) (by decide)
    (by unfold State.reqCancelSplice; rw [standOfNumber_of_not hk]) rfl, fun n => ?_⟩
  intro c r
  have owner := h.reqCancelSplice_number n
  have refuses {st : Status} (ho : h.reqCancelSplice (Stand.number n) = (h, .just st)) :
      exec c s = .next (h.answered 0x41 tag st []).refreshLimits :=
    run_just (owner := fun t => t.reqCancelSplice (Stand.number n)) (by decide) ho rfl
  have accepts {x : SpliceRec} {bs : List Byte} (ho : h.reqCancelSplice (Stand.number n) = (h.setSpl n x, .okWith bs)) :
      exec c s = .next ((h.setSpl n x).answered 0x41 tag .ok bs).refreshLimits :=
    run_okWith (owner := fun t => t.reqCancelSplice (Stand.number n)) (by decide) ho rfl
  refine ⟨fun hu => refuses (owner.trans (if_pos hu)), fun hu => ?_⟩
  replace owner := owner.trans (if_neg hu)
  have seq {x : Option Seq} (hx : r.seq = x) : (h.spl n).seq = x := hx
  have wait {x : RollWait} (hx : r.wait = x) : (h.spl n).wait = x := hx
  refine ⟨fun q hq hs => ?_, fun q hq hs => ?_, fun hq hw => ?_, fun p hq hw => ?_, fun hq hw he => ?_, fun hq hw he => ?_⟩
  · rw [seq hq] at owner
    exact accepts (owner.trans (if_neg hs))
  · rw [seq hq] at owner
    have done : h.reqCancelSplice (Stand.number n) = (h.endOwed n q .aborted false, .okWith [1, 0, 1]) := owner.trans (if_pos hs)
    refine ⟨h.endOwed n q .aborted false, _, run_okWith_finish (owner := fun t => t.reqCancelSplice (Stand.number n)) (by decide) done,
      eq_patch_of_erase (F := [.splice, .map, .regs, .notices, .inbox, .choice]) (erase_endOwed _ _ _ _ _ (by decide)),
      fun k hk => ?_, State.inbox_endSeq _ _ _ _ _ _, ?_, ⟨(h.keepOwed n q).1.spliceEndOf n q .aborted (h.keepOwed n q).2, ?_, rfl⟩, fun hk => ?_,
      fun p hk hp => ?_⟩
    · exact (State.spl_endSeq_other _ _ _ _ _ hk).trans (State.spl_keepOwed_other q hk)
    · rw [State.endOwed, State.spl_endSeq]
    · rw [State.endOwed, State.spl_endSeq]
    · rw [State.endOwed, State.spl_endSeq, State.spl_keepOwed_expiry n hk]
    · rw [State.endOwed, State.spl_endSeq, State.spl_keepOwed_plan n hk hp]
      exact ⟨rfl, rfl⟩
  · rw [seq hq, wait hw] at owner
    exact accepts owner
  · rw [seq hq, wait hw] at owner
    exact refuses owner
  · rw [seq hq, wait hw] at owner
    exact accepts (owner.trans (if_pos he))
  · rw [seq hq, wait hw] at owner
    replace owner := owner.trans (if_neg (by rw [show (h.spl n).expiryHeld = false from he]; nofun))
    split_ifs with hp
    · exact refuses (owner.trans (if_pos hp))
    · exact refuses (owner.trans (if_neg hp))

/-! ### Reports to the Reel Stands (R103) -/

theorem State.stand_tapeSpent (s : State) (n : Stand) (m : Arm) :
    (s.tapeSpent n m).stand n = (s.stand n).updArm m (fun x => if x.state = .ready then { x with state := .loaded } else x) := by
  rw [State.tapeSpent, State.standsMarked, stand_markIf, State.stand_updStand]

theorem State.stand_tapeSpent_other (s : State) {n k : Stand} (m : Arm) (hk : k ≠ n) : (s.tapeSpent n m).stand k = s.stand k := by
  rw [State.tapeSpent, State.standsMarked, stand_markIf, State.stand_updStand_other _ _ hk]

theorem State.stand_standFault (s : State) (n : Stand) (c : FaultCause) : (s.standFault n c).stand n = (s.stand n).faultWith c := by
  rw [State.standFault, State.standsMarked, stand_markIf, State.stand_updStand]

theorem State.stand_standFault_other (s : State) {n k : Stand} (c : FaultCause) (hk : k ≠ n) :
    (s.standFault n c).stand k = s.stand k := by
  rw [State.standFault, State.standsMarked, stand_markIf, State.stand_updStand_other _ _ hk]

theorem State.stand_of_erase {s t : State} {F : List Part} (h : t.erase F = s.erase F) (hF : .stands ∉ F) (n : Stand) :
    t.stand n = s.stand n := State.stand_of_stands (stands_of_erase h hF) n

/-! ### PASTE fails (R128) -/

/-- R128: the state of a failed PASTE before the sequence ends. -/
def State.pasteFailed (s : State) (n : Stand) (q : Seq) : State :=
  let s1 := (s.tapeSpent n q.standby).updSpl n (fun r => { r with failures := min 3 ((s.spl n).failures + 1) })
  if min 3 ((s.spl n).failures + 1) = 3 then s1.standFault n .pasteLimit else s1

theorem State.takePasteFail_paste {s : State} {n : Stand} {q : Seq} (hq : (s.spl n).seq = some q) (hs : q.stage = .paste) :
    s.takePasteFail n = (s.pasteFailed n q).endOwed n q .pasteFail true := by
  simp only [State.takePasteFail, hq, hs, if_true, State.pasteFailed]

theorem State.takePasteFail_idle {s : State} {n : Stand} (h : ∀ q, (s.spl n).seq = some q → q.stage ≠ .paste) :
    s.takePasteFail n = s := by
  unfold State.takePasteFail
  split
  · rfl
  · next q hq => exact if_neg (h q hq)

theorem State.erase_pasteFailed (s : State) (n : Stand) (q : Seq) :
    (s.pasteFailed n q).erase [.stands, .splice, .notices] = s.erase [.stands, .splice, .notices] := by
  simp only [State.pasteFailed]
  split_ifs
  · rw [erase_standFault _ _ _ (by decide), erase_updSpl _ _ _ (by decide), erase_tapeSpent _ _ _ (by decide)]
  · rw [erase_updSpl _ _ _ (by decide), erase_tapeSpent _ _ _ (by decide)]

theorem State.spl_pasteFailed (s : State) (n : Stand) (q : Seq) :
    (s.pasteFailed n q).spl n = { s.spl n with failures := min 3 ((s.spl n).failures + 1) } := by
  have spent := State.spl_of_erase (erase_tapeSpent s n q.standby (F := [.stands, .notices]) (by decide)) (by decide) n
  simp only [State.pasteFailed]
  split_ifs
  · rw [State.spl_of_erase (erase_standFault _ _ _ (F := [.stands, .notices]) (by decide)) (by decide), State.spl_updSpl, spent]
  · rw [State.spl_updSpl, spent]

theorem State.other_pasteFailed (s : State) {n k : Stand} (q : Seq) (hk : k ≠ n) :
    (s.pasteFailed n q).stand k = s.stand k ∧ (s.pasteFailed n q).spl k = s.spl k := by
  have spent := State.spl_of_erase (erase_tapeSpent s n q.standby (F := [.stands, .notices]) (by decide)) (by decide) k
  simp only [State.pasteFailed]
  split_ifs
  · refine ⟨?_, ?_⟩
    · rw [State.stand_standFault_other _ _ hk]
      exact State.stand_tapeSpent_other s _ hk
    · rw [State.spl_of_erase (erase_standFault _ _ _ (F := [.stands, .notices]) (by decide)) (by decide),
        State.spl_updSpl_other _ _ hk, spent]
  · exact ⟨State.stand_tapeSpent_other s _ hk, by rw [State.spl_updSpl_other _ _ hk, spent]⟩

/-- R128: the tape is spent, and the third failure faults the stand. -/
theorem State.stand_pasteFailed (s : State) (n : Stand) (q : Seq) :
    (s.pasteFailed n q).stand n =
      { (s.stand n).updArm q.standby (fun x => if x.state = .ready then { x with state := .loaded } else x) with
        fault := if 2 ≤ (s.spl n).failures then some ((s.stand n).fault.getD .pasteLimit) else (s.stand n).fault } := by
  have spent : State.stand ((s.tapeSpent n q.standby).updSpl n (fun r => { r with failures := min 3 ((s.spl n).failures + 1) })) n =
      _ := s.stand_tapeSpent n q.standby
  have fault : ((s.stand n).updArm q.standby (fun x => if x.state = .ready then { x with state := .loaded } else x)).fault =
      (s.stand n).fault := StandRec.fault_setArm _ _ _
  simp only [State.pasteFailed]
  by_cases h : 2 ≤ (s.spl n).failures
  · rw [if_pos (by omega), if_pos h, State.stand_standFault, spent, ← fault]
    rfl
  · rw [if_neg (by omega), if_neg h, spent, ← fault]

/-! ### CUT fails (R129) -/

theorem State.mem_inbox_setSpans {s : State} {e : Ev} (he : e ∈ s.inbox) (l : List Span) (age : Nat) : e ∈ (s.setSpans l age).inbox := by
  unfold State.setSpans
  split
  · exact he
  · obtain ⟨l', r', c, hin, heq, -⟩ := State.reportMapChange_eq { s with map := { spans := l, nextAge := age } }
    rw [heq]
    have mem : e ∈ l' ++ r' := hin ▸ he
    rcases List.mem_append.mp mem with h | h
    · exact List.mem_append_left _ h
    · exact List.mem_append_right _ (List.mem_cons_of_mem _ h)

theorem State.mem_inbox_openSpan {s : State} {e : Ev} (he : e ∈ s.inbox) (kind : SpanKind) (src : Source) (p : Pos) :
    e ∈ (s.openSpan kind src p).inbox := by
  simp only [State.openSpan]
  split
  · exact he
  · split
    · exact State.mem_inbox_setSpans he _ _
    · split
      · exact he
      · exact State.mem_inbox_setSpans he _ _

theorem State.mem_inbox_closeMismatch {s : State} {e : Ev} (he : e ∈ s.inbox) (n : Stand) (p : Pos) : e ∈ (s.closeMismatch n p).inbox := by
  unfold State.closeMismatch
  split
  · show e ∈ (s.closeSpan (srcOf n) p).inbox
    simp only [State.closeSpan]
    split
    · exact he
    · split_ifs
      · exact State.mem_inbox_setSpans he _ _
      · exact State.mem_inbox_setSpans he _ _
  · exact he

theorem State.length_closeMismatch (s : State) (n : Stand) (p : Pos) :
    (s.closeMismatch n p).map.spans.length ≤ s.map.spans.length := by
  unfold State.closeMismatch
  split
  · exact s.length_closeSpan _ _
  · exact le_rfl

theorem State.spl_keepPlan {s : State} {q : Seq} {p : Plan} (n : Stand) (hp : q.plan = some p) :
    (s.keepPlan n q).spl n = { s.spl n with wait := .plan p } := by
  simp only [State.keepPlan, hp, State.spl_updSpl]

theorem State.spl_keepPlan_of_none {s : State} {q : Seq} (n : Stand) (hp : q.plan = none) : s.keepPlan n q = s := by
  simp only [State.keepPlan, hp]

theorem State.spl_keepPlan_other (s : State) {n k : Stand} (q : Seq) (hk : k ≠ n) : (s.keepPlan n q).spl k = s.spl k := by
  cases hp : q.plan with
  | none => rw [State.spl_keepPlan_of_none n hp]
  | some p => simp only [State.keepPlan, hp, State.spl_updSpl_other _ _ hk]

theorem State.mismatchOpen_keepPlan (s : State) (n : Stand) (q : Seq) :
    ((s.keepPlan n q).spl n).mismatchOpen = (s.spl n).mismatchOpen := by
  cases hp : q.plan with
  | none => rw [State.spl_keepPlan_of_none n hp]
  | some p => rw [State.spl_keepPlan n hp]

/-- R129: the stand is faulted and the line halted. -/
def State.cutHalted (s : State) (n : Stand) : State := (s.standFault n .cutFail).post (.halt n .cutFail)

/-- R129: the state of a failed CUT before the sequence ends. -/
def State.cutFailed (s : State) (n : Stand) (q : Seq) : State :=
  ((s.cutHalted n).closeMismatch n (s.boardAt n)).openSpan .splice (srcOf n) (q.joint.getD (s.boardAt n))

theorem State.takeCutFail_cut {s : State} {n : Stand} {q : Seq} (hq : (s.spl n).seq = some q) (hs : q.stage = .cut) :
    s.takeCutFail n = ((s.cutFailed n q).keepPlan n q).endSeq n q .cutFail none true := by
  simp only [State.takeCutFail, hq, hs, if_true, State.cutFailed, State.cutHalted]

theorem State.takeCutFail_idle {s : State} {n : Stand} (h : ∀ q, (s.spl n).seq = some q → q.stage ≠ .cut) : s.takeCutFail n = s := by
  unfold State.takeCutFail
  split
  · rfl
  · next q hq => exact if_neg (h q hq)

theorem State.erase_cutFailed (s : State) (n : Stand) (q : Seq) {F : List Part} (h : [.map, .inbox, .choice, .notices] ⊆ F) :
    (s.cutFailed n q).erase F = ((s.cutHalted n).closeMismatch n (s.boardAt n)).erase F := erase_openSpan _ _ _ _ h

theorem State.spl_cutHalted (s : State) (n k : Stand) : (s.cutHalted n).spl k = s.spl k :=
  State.spl_of_erase (erase_standFault s n .cutFail (F := [.stands, .notices]) (by decide)) (by decide) k

theorem State.spl_cutFailed (s : State) (n : Stand) (q : Seq) : (s.cutFailed n q).spl n = { s.spl n with mismatchOpen := false } := by
  rw [State.spl_of_erase (s.erase_cutFailed n q (F := [.map, .inbox, .choice, .notices]) (by decide)) (by decide),
    State.spl_closeMismatch, State.spl_cutHalted]

theorem State.spl_cutFailed_other (s : State) {n k : Stand} (q : Seq) (hk : k ≠ n) : (s.cutFailed n q).spl k = s.spl k := by
  rw [State.spl_of_erase (s.erase_cutFailed n q (F := [.map, .inbox, .choice, .notices]) (by decide)) (by decide),
    State.spl_closeMismatch_other _ _ hk, State.spl_cutHalted]

theorem State.stand_cutFailed (s : State) (n : Stand) (q : Seq) (k : Stand) :
    (s.cutFailed n q).stand k = (s.standFault n .cutFail).stand k := by
  rw [State.stand_of_erase (s.erase_cutFailed n q (F := [.map, .inbox, .choice, .notices]) (by decide)) (by decide),
    State.stand_of_erase (erase_closeMismatch _ _ _ (F := [.splice, .map, .inbox, .choice]) (by decide)) (by decide)]
  rfl

/-- What a failed CUT leaves in the other parts when its sequence ends. -/
theorem State.erase_endCut (s : State) (n : Stand) (q : Seq) :
    ((s.keepPlan n q).endSeq n q .cutFail none true).erase [.splice, .regs, .inbox, .notices] =
      s.erase [.splice, .regs, .inbox, .notices] :=
  (erase_endSeq _ _ _ _ _ _ (by decide)).trans (erase_keepPlan _ _ _ (by decide))

/-- Settles O41. -/
theorem pasteFailAndCutFail : Obligations.PasteFailAndCutFail := by
  intro n s quiet
  have idles {f : State → State} (h : f quiet = quiet) : s.run f = .next quiet.quietEnd := by
    rw [run_quiet s f (by rw [show f { s with inbox := [] } = quiet from h]), show f { s with inbox := [] } = quiet from h]
  refine ⟨fun h => idles (f := fun t => t.takePasteFail n) (State.takePasteFail_idle h),
    fun h => idles (f := fun t => t.takeCutFail n) (State.takeCutFail_idle h), fun q hq => ⟨fun hs => ?_, fun hs => ?_⟩⟩
  · have done : quiet.takePasteFail n = (quiet.pasteFailed n q).endOwed n q .pasteFail true := State.takePasteFail_paste hq hs
    have spl : (quiet.pasteFailed n q).spl n = { s.spl n with failures := min 3 ((s.spl n).failures + 1) } := quiet.spl_pasteFailed n q
    have stand (k : Stand) : (quiet.takePasteFail n).stand k = (quiet.pasteFailed n q).stand k := by
      rw [done]
      exact State.stand_of_erase (erase_endOwed _ _ _ _ _ (F := [.splice, .regs, .map, .inbox, .choice, .notices]) (by decide)) (by decide) k
    have ends : (quiet.takePasteFail n).spl n = { ((quiet.pasteFailed n q).keepOwed n q).1.spl n with
        seq := none, pasteCmd := none, cutCmd := false,
        last := some (((quiet.pasteFailed n q).keepOwed n q).1.spliceEndOf n q .pasteFail ((quiet.pasteFailed n q).keepOwed n q).2) } := by
      rw [done, State.endOwed, State.spl_endSeq]
    refine ⟨quiet.takePasteFail n, _, rfl, ?_, fun k hk => ⟨?_, ?_⟩, by rw [done]; exact State.inbox_endSeq _ _ _ _ _ _, by rw [ends], ?_,
      ⟨_, by rw [ends], rfl⟩, fun x hx hready => ?_, ?_, fun hk => ?_, fun p hk hp => ?_, fun p hk hp hm hg ho hroom => ?_⟩
    · refine eq_patch_of_erase (F := [.stands, .splice, .map, .regs, .notices, .inbox, .choice]) ?_
      rw [erase_takePasteFail _ _ (by decide), erase_with_inbox _ _ (by decide)]
    · rw [stand, (quiet.other_pasteFailed q hk).1]
      rfl
    · rw [done, State.endOwed, State.spl_endSeq_other _ _ _ _ _ hk, State.spl_keepOwed_other _ hk, (quiet.other_pasteFailed q hk).2]
      rfl
    · rw [ends]
      show (((quiet.pasteFailed n q).keepOwed n q).1.spl n).failures = _
      rw [State.failures_keepOwed, spl]
    · rw [stand, State.stand_pasteFailed]
      show ((s.stand n).updArm q.standby _).arm q.standby = _
      rw [StandRec.updArm, StandRec.arm_setArm_same, hx, Option.map_some, if_pos hready]
    · rw [stand, State.stand_pasteFailed]
      rfl
    · rw [ends, State.spl_keepOwed_expiry n hk]
    · rw [ends, State.spl_keepOwed_plan n hk hp]
      exact ⟨rfl, rfl⟩
    · refine ⟨_, by rw [ends], ?_⟩
      have frame := quiet.erase_pasteFailed n q
      show ((quiet.pasteFailed n q).keepOwed n q).2 = _
      rw [State.keepOwed_plan n hk hp, State.openMismatchTell_tells (by rw [spl]; exact hm)
        (by rw [cfg_of_erase frame (by decide)]; exact hg)
        (by rw [State.openSpanOf, map_of_erase frame (by decide)]; exact ho) (by rw [map_of_erase frame (by decide)]; exact hroom)]
      rw [State.boardAt, State.dStand, tracker_of_erase frame (by decide), cfg_of_erase frame (by decide)]
      rfl
  · have done : quiet.takeCutFail n = ((quiet.cutFailed n q).keepPlan n q).endSeq n q .cutFail none true := State.takeCutFail_cut hq hs
    have frame := (quiet.cutFailed n q).erase_endCut n q
    rw [← done] at frame
    have stand (k : Stand) : (quiet.takeCutFail n).stand k = (quiet.standFault n .cutFail).stand k := by
      rw [State.stand_of_erase frame (by decide), State.stand_cutFailed]
    refine ⟨quiet.takeCutFail n, _, rfl, ?_, fun k hk => ⟨?_, ?_⟩, by rw [done]; exact State.inbox_endSeq _ _ _ _ _ _, ?_, ?_, ?_,
      ⟨_, by rw [done, State.spl_endSeq], rfl⟩, ?_, fun p hp => ?_, fun hg hroom => ?_⟩
    · refine eq_patch_of_erase (F := [.stands, .splice, .map, .regs, .notices, .inbox, .choice]) ?_
      rw [erase_takeCutFail _ _ (by decide), erase_with_inbox _ _ (by decide)]
    · rw [stand, State.stand_standFault_other _ _ hk]
      rfl
    · rw [done, State.spl_endSeq_other _ _ _ _ _ hk, State.spl_keepPlan_other _ _ hk, State.spl_cutFailed_other _ _ hk]
      rfl
    · rw [done]
      refine State.mem_inbox_endSeq ?_ (fun _ => rfl) _ _ _ _ _
      have kept (u : State) : (u.keepPlan n q).inbox = u.inbox := by
        unfold State.keepPlan
        split <;> rfl
      rw [kept]
      exact State.mem_inbox_openSpan (State.mem_inbox_closeMismatch (List.mem_append_right _ (.head _)) _ _) _ _ _
    · rw [done, State.spl_endSeq]
    · rw [done, State.spl_endSeq]
      show (((quiet.cutFailed n q).keepPlan n q).spl n).mismatchOpen = false
      rw [State.mismatchOpen_keepPlan, State.spl_cutFailed]
    · rw [stand, State.stand_standFault]
      rfl
    · rw [done, State.spl_endSeq, State.spl_keepPlan n hp]
    · rw [map_of_erase frame (by decide)]
      refine State.exists_open_openSpan _ _ ?_ ?_
      · rw [cfg_of_erase (erase_closeMismatch _ _ _ (F := [.splice, .map, .inbox, .choice]) (by decide)) (by decide), State.cutHalted,
          cfg_of_erase (erase_post _ _ (F := [.inbox]) (by decide)) (by decide),
          cfg_of_erase (erase_standFault _ _ _ (F := [.stands, .notices]) (by decide)) (by decide)]
        exact hg
      · refine (State.length_closeMismatch _ _ _).trans_lt ?_
        rw [State.cutHalted, State.post_map, map_of_erase (erase_standFault _ _ _ (F := [.stands, .notices]) (by decide)) (by decide)]
        exact hroom

/-! ### SPLICE_NOW (R117, R119 to R121, R133) -/

/-- R119: the trigger of a sequence whose roll is ready. -/
theorem State.triggerSeq_ready {s : State} {n : Stand} {q : Seq} (hq : (s.spl n).seq = some q)
    (hr : s.isReady n q.required q.widthOrder = true) :
    s.triggerSeq n = (((s.withdraw (.approach n)).withdraw (.spliceTrigger n)).setSpl n { s.spl n with
      seq := some { q with triggered := true, approach := true, standby := s.standbyArm n } }).pasteTest n := by
  simp only [State.triggerSeq, hq, hr, if_true, State.updSeq, State.updSpl_eq]
  have spl : ((s.withdraw (.approach n)).withdraw (.spliceTrigger n)).spl n = s.spl n := rfl
  rw [spl, hq]
  rfl

/-- R120, R121: the paste-start test of a triggered sequence on a line that moves. -/
theorem State.pasteTest_triggered {s : State} {n : Stand} {q : Seq} (hq : (s.spl n).seq = some q) (ha : q.stage = .armed)
    (ht : q.triggered = true) (hl : s.lineMoves = true) :
    s.pasteTest n = if s.tracker.measured ≤ s.govCfg.spliceSpeed then s.startPaste n q else s := by
  simp only [State.pasteTest, hq, ha, ht, hl, true_and]

/-- R117: a NOW sequence in ARMED, before its trigger or after it. -/
def nowSeq (needs : Nat × Option Nat) (m : Arm) (triggered : Bool) : Seq :=
  { kind := .now, plan := none, required := needs.1, widthOrder := needs.2, point := none, stage := .armed, triggered := triggered,
    approach := true, cancelReq := false, timer := none, standby := m, joint := none, route := none }

theorem State.armNow_eq {s : State} {n : Stand} {m : Arm} (hm : s.standbyArm n = m) (needs : Nat × Option Nat) :
    s.armNow n .now none needs = (s.setSpl n { s.spl n with seq := some (nowSeq needs m false) }).triggerSeq n := by
  subst hm
  rfl

/-- R117: a NOW sequence armed with a roll ready, from a state with nothing waiting. -/
theorem State.armNow_ready {s : State} {n : Stand} {needs : Nat × Option Nat} {m : Arm} (hi : s.inbox = [])
    (hr : s.isReady n needs.1 needs.2 = true) (hm : s.standbyArm n = m) (hl : s.lineMoves = true) :
    s.armNow n .now none needs =
      if s.tracker.measured ≤ s.govCfg.spliceSpeed then
        (({ s with regs := (s.regs.put (.approach n) none).put (.spliceTrigger n) none } : State).setSpl n
          { s.spl n with seq := some (nowSeq needs m true) }).startPaste n (nowSeq needs m true)
      else ({ s with regs := (s.regs.put (.approach n) none).put (.spliceTrigger n) none } : State).setSpl n
        { s.spl n with seq := some (nowSeq needs m true) } := by
  have armed : (s.setSpl n { s.spl n with seq := some (nowSeq needs m false) }).triggerSeq n =
      (((((s.setSpl n { s.spl n with seq := some (nowSeq needs m false) }).withdraw (.approach n)).withdraw
        (.spliceTrigger n)).setSpl n { s.spl n with seq := some (nowSeq needs m true) }).pasteTest n) := by
    rw [State.triggerSeq_ready (s := s.setSpl n _) (q := nowSeq needs m false) (by rw [State.spl_setSpl]) hr, State.spl_setSpl,
      show (s.setSpl n { s.spl n with seq := some (nowSeq needs m false) }).standbyArm n = m from hm]
    rfl
  have withdrawn : (((s.setSpl n { s.spl n with seq := some (nowSeq needs m false) }).withdraw (.approach n)).withdraw
      (.spliceTrigger n)).setSpl n { s.spl n with seq := some (nowSeq needs m true) } =
      ({ s with regs := (s.regs.put (.approach n) none).put (.spliceTrigger n) none } : State).setSpl n
        { s.spl n with seq := some (nowSeq needs m true) } := by
    simp [State.withdraw, State.setSpl, tset, hi]
  rw [State.armNow_eq hm, armed, withdrawn]
  exact State.pasteTest_triggered (q := nowSeq needs m true) (by rw [State.spl_setSpl]) rfl rfl hl

/-- A wait PLAN. -/
def RollWait.isPlan : RollWait → Bool
  | .plan _ => true
  | _ => false

theorem RollWait.isPlan_iff (w : RollWait) : w.isPlan = true ↔ ∃ p, w = .plan p := by
  cases w <;> simp [RollWait.isPlan]

/-- R133: a wait EXPIRY is held while the sequence runs (log 37). -/
def SpliceRec.holdExpiry (r : SpliceRec) : SpliceRec :=
  if r.wait = .expiry then { r with wait := .none, expiryHeld := true } else r

theorem SpliceRec.holdExpiry_eq {r : SpliceRec} (h : ¬r.wait.isPlan = true) :
    r.holdExpiry = { r with wait := .none, expiryHeld := r.expiryHeld || decide (r.wait = .expiry) } := by
  unfold SpliceRec.holdExpiry
  cases hw : r.wait with
  | none => rw [if_neg nofun, decide_eq_false nofun, Bool.or_false, ← hw]
  | expiry => rw [if_pos rfl, decide_eq_true rfl, Bool.or_true]
  | plan p => exact absurd (by rw [hw]; rfl) h

theorem State.reqSpliceNow_number (s : State) (n : Stand) :
    s.reqSpliceNow (Stand.number n) =
      if s.gov.mode ≠ .running ∨ (s.stand n).fault.isSome = true then (s, .just .wrongMode)
      else if (s.spl n).seq.isSome = true ∨ (s.spl n).wait.isPlan = true then (s, .just .busy)
      else if (!s.isReady n (s.boardNeeds n).1 (s.boardNeeds n).2) = true then (s, .just .notReady)
      else
        ((s.setSpl n (s.spl n).holdExpiry).armNow n .now none (s.boardNeeds n),
        .okWith (u8 (n.val + 1) ++ u8 (Arm.code (s.standbyArm n)) ++
          u32 (match (s.stand n).arm (s.standbyArm n) with | some x => x.spec.id | none => 0))) := by
  have held : (if (s.spl n).wait = .expiry then s.updSpl n (fun x => { x with wait := .none, expiryHeld := true }) else s) =
      s.setSpl n (s.spl n).holdExpiry := by
    unfold SpliceRec.holdExpiry
    split
    · rfl
    · simp [State.setSpl, State.spl]
  simp only [State.reqSpliceNow, standOfNumber_number, held]
  refine if_congr .rfl rfl (if_congr ?_ rfl rfl)
  cases (s.spl n).wait <;> rfl

/-- Settles O42. -/
theorem spliceNowStartsSplice : Obligations.SpliceNowStartsSplice := by
  intro tag s h
  refine ⟨fun k hk => run_just (owner := fun t => t.reqSpliceNow k) (by decide)
    (by unfold State.reqSpliceNow; rw [standOfNumber_of_not hk]) rfl, fun n => ?_⟩
  intro c busy needs
  have owner := h.reqSpliceNow_number n
  have refuses {st : Status} (ho : h.reqSpliceNow (Stand.number n) = (h, .just st)) :
      exec c s = .next (h.answered 0x40 tag st []).refreshLimits :=
    run_just (owner := fun t => t.reqSpliceNow (Stand.number n)) (by decide) ho rfl
  have allowed (hmode : s.gov.mode = .running) (hf : (s.stand n).fault = none) :
      ¬(h.gov.mode ≠ .running ∨ (h.stand n).fault.isSome = true) := by
    rintro (hm | hsome)
    · exact hm hmode
    · rw [show (h.stand n).fault = none from hf] at hsome
      cases hsome
  have busy_iff : busy ↔ ((h.spl n).seq.isSome = true ∨ (h.spl n).wait.isPlan = true) := by
    rw [RollWait.isPlan_iff]
    rfl
  refine ⟨fun hr => refuses (owner.trans (if_pos (hr.imp_right fun hf => ?_))), fun hmode hf hb => ?_, fun hmode hf hb hready => ?_,
    fun m x hmode hf hb hready hm hx => ?_⟩
  · rwa [Option.isSome_iff_ne_none]
  · exact refuses (owner.trans ((if_neg (allowed hmode hf)).trans (if_pos (busy_iff.mp hb))))
  · refine refuses (owner.trans ((if_neg (allowed hmode hf)).trans ((if_neg (mt busy_iff.mpr hb)).trans (if_pos ?_))))
    exact (Bool.not_eq_true' _).mpr hready
  · have standby : s.standbyArm n = m := by rw [State.standbyArm, hm]; rfl
    replace owner := owner.trans ((if_neg (allowed hmode hf)).trans ((if_neg (mt busy_iff.mpr hb)).trans (if_neg (by
      rw [show h.isReady n (h.boardNeeds n).1 (h.boardNeeds n).2 = true from hready]
      nofun))))
    have moves : (h.setSpl n (h.spl n).holdExpiry).lineMoves = true := by
      show (decide (s.gov.mode = .running) || _) = true
      rw [decide_eq_true hmode, Bool.true_or]
    have armed := State.armNow_ready (s := h.setSpl n (h.spl n).holdExpiry) (n := n) (needs := needs) (m := m) rfl hready standby moves
    have held := SpliceRec.holdExpiry_eq (r := h.spl n) (fun hp => hb (busy_iff.mpr (.inr hp)))
    rw [State.spl_setSpl] at armed
    intro now q
    let withdrawn : State := { h with regs := (s.regs.put (.approach n) none).put (.spliceTrigger n) none }
    have started : (h.setSpl n (h.spl n).holdExpiry).armNow n .now none needs =
        withdrawn.setSpl n
          { s.spl n with
            seq := some q, pasteCmd := if now then some m else (s.spl n).pasteCmd, wait := .none,
            expiryHeld := (s.spl n).expiryHeld || decide ((s.spl n).wait = .expiry) } := by
      by_cases hn : s.tracker.measured ≤ s.govCfg.spliceSpeed
      · refine armed.trans ((if_pos hn).trans ?_)
        simp only [q, now, decide_eq_true hn, if_true, State.startPaste, State.updSpl_eq, State.spl_setSpl, State.setSpl_setSpl, held]
        exact State.setSpl_setSpl withdrawn n _ _
      · refine armed.trans ((if_neg hn).trans ?_)
        simp only [q, now, decide_eq_false hn, held]
        exact State.setSpl_setSpl withdrawn n _ _
    have bytes : (match (h.stand n).arm (h.standbyArm n) with | some x => x.spec.id | none => 0) = x.spec.id := by
      rw [show h.standbyArm n = m from standby, show (h.stand n).arm m = some x from hx]
    refine run_okWith (owner := fun t => t.reqSpliceNow (Stand.number n)) (by decide) (owner.trans ?_) rfl
    rw [bytes, show h.standbyArm n = m from standby]
    exact congrArg (·, _) started

end Sys2Proof.Machine

/-! The Reject Map: coverage, and the statements about ADD_REJECT and the board a map operation leaves covered (O25, O26). -/

namespace Sys2Proof.Machine

/-! ### Positions by their lead over E (section 0.7) -/

theorem isBelow_iff (e a b : Pos) : isBelow e a b = true ↔ lead e a < lead e b := by rw [isBelow, decide_eq_true_iff]

theorem isBelow_eq_false_iff (e a b : Pos) : isBelow e a b = false ↔ lead e b ≤ lead e a := by
  rw [isBelow, decide_eq_false_iff_not, not_lt]

theorem lead_posMax (e a b : Pos) : lead e (posMax e a b) = max (lead e a) (lead e b) := by
  unfold posMax
  split
  · next h => rw [max_eq_right ((isBelow_iff e a b).mp h).le]
  · next h => rw [max_eq_left ((isBelow_eq_false_iff e a b).mp (Bool.eq_false_iff.mpr h))]

theorem lead_posMin (e a b : Pos) : lead e (posMin e a b) = min (lead e a) (lead e b) := by
  unfold posMin
  split
  · next h => rw [min_eq_right ((isBelow_iff e b a).mp h).le]
  · next h => rw [min_eq_left ((isBelow_eq_false_iff e b a).mp (Bool.eq_false_iff.mpr h))]

/-! ### Coverage by a span (R5) -/

/-- A stretch of board holds a position. -/
def Within (e lo hi p : Pos) : Prop := lead e lo ≤ lead e p ∧ lead e p < lead e hi

/-- A wider stretch holds what a stretch holds. -/
theorem Within.widen {e lo hi lo' hi' p : Pos} (h : Within e lo hi p) (hlo : lead e lo' ≤ lead e lo) (hhi : lead e hi ≤ lead e hi') :
    Within e lo' hi' p := ⟨hlo.trans h.1, h.2.trans_le hhi⟩

/-- R5: a span covers a position. -/
def State.spanCovers (s : State) (p : Pos) (x : Span) : Prop := Within s.tracker.pos x.start (s.topOf x) p

theorem State.covers_iff (s : State) (p : Pos) : s.covers p = true ↔ ∃ x ∈ s.map.spans, s.spanCovers p x := by
  simp only [State.covers, List.any_eq_true, Bool.and_eq_true, Bool.not_eq_true', isBelow_eq_false_iff, isBelow_iff,
    State.spanCovers, Within]

/-- What a span covers follows from E and the distances alone. -/
theorem State.spanCovers_congr {s t : State} (hp : t.tracker = s.tracker) (hc : t.cfg = s.cfg) (p : Pos) (x : Span) :
    t.spanCovers p x ↔ s.spanCovers p x := by
  have distance (src : Source) : t.distance src = s.distance src := by
    cases src <;> simp only [State.distance, State.dStand, State.dZone, State.dGlue, State.dSlit, hc]
  simp only [State.spanCovers, State.topOf, State.reachOf, hp, distance]

/-- A closed span holds a position. -/
def Span.holds (e p : Pos) (x : Span) : Prop := ∃ q, x.stop = some q ∧ Within e x.start q p

theorem Span.holds.covers {s : State} {p : Pos} {x : Span} (h : x.holds s.tracker.pos p) : s.spanCovers p x := by
  obtain ⟨q, hq, hw⟩ := h
  simp only [State.spanCovers, State.topOf, hq]
  exact hw

theorem State.spanCovers_of_stop {s : State} {p q : Pos} {x : Span} (hq : x.stop = some q) :
    s.spanCovers p x ↔ Within s.tracker.pos x.start q p := by
  simp only [State.spanCovers, State.topOf, hq]

/-- R5: an open span covers up to its station, and up to its floor. -/
theorem State.spanCovers_of_open {s : State} {p : Pos} {x : Span} (hq : x.stop = none) :
    s.spanCovers p x ↔ Within s.tracker.pos x.start (s.reachOf (x.openFor.getD x.source) x.floor) p := by
  simp only [State.spanCovers, State.topOf, hq]

theorem State.lead_reachOf_none (s : State) (src : Source) :
    lead s.tracker.pos (s.reachOf src none) = lead s.tracker.pos (s.tracker.pos.plus (s.distance src)) := rfl

theorem State.lead_reachOf_some (s : State) (src : Source) (f : Pos) :
    lead s.tracker.pos (s.reachOf src (some f)) =
      max (lead s.tracker.pos (s.tracker.pos.plus (s.distance src))) (lead s.tracker.pos f) := lead_posMax _ _ _

/-! ### Merging (R7) -/

/-- R7: a span that two are joined into holds what either held. -/
theorem Span.holds_join {e p : Pos} {x y : Span} (hx : x.stop.isSome = true) (hy : y.stop.isSome = true)
    (h : x.holds e p ∨ y.holds e p) : (Span.join e x y).holds e p := by
  obtain ⟨q, hq⟩ := Option.isSome_iff_exists.mp hx
  obtain ⟨r, hr⟩ := Option.isSome_iff_exists.mp hy
  refine ⟨_, rfl, ?_⟩
  show Within e (posMin e x.start y.start) (posMax e (x.stop.getD x.start) (y.stop.getD y.start)) p
  rw [hq, hr]
  rcases h with ⟨q', hq', hw⟩ | ⟨r', hr', hw⟩
  · cases hq.symm.trans hq'
    exact hw.widen (by rw [lead_posMin]; exact min_le_left _ _) (by rw [lead_posMax]; exact le_max_left _ _)
  · cases hr.symm.trans hr'
    exact hw.widen (by rw [lead_posMin]; exact min_le_right _ _) (by rw [lead_posMax]; exact le_max_right _ _)

theorem Span.isSome_join (e : Pos) (x y : Span) : (Span.join e x y).stop.isSome = true := rfl

theorem Span.holds_foldl_join {e p : Pos} {x : Span} {l : List Span} (hx : x.stop.isSome = true)
    (hl : ∀ y ∈ l, y.stop.isSome = true) (h : x.holds e p ∨ ∃ y ∈ l, y.holds e p) : (l.foldl (Span.join e) x).holds e p := by
  induction l generalizing x with
  | nil => exact h.resolve_right (by simp)
  | cons y l ih =>
    have hy := hl y (.head _)
    refine ih (Span.isSome_join e x y) (fun z hz => hl z (.tail _ hz)) ?_
    rcases h with h | ⟨z, hz, h⟩
    · exact .inl (Span.holds_join hx hy (.inl h))
    · rcases List.mem_cons.mp hz with rfl | hz
      · exact .inl (Span.holds_join hx hy (.inr h))
      · exact .inr ⟨z, hz, h⟩

theorem Span.isSome_foldl_join {e : Pos} {x : Span} (l : List Span) (hx : x.stop.isSome = true) :
    (l.foldl (Span.join e) x).stop.isSome = true := by
  induction l generalizing x with
  | nil => exact hx
  | cons y l ih => exact ih (Span.isSome_join e x y)

theorem Span.isSome_of_joins {e : Pos} {x y : Span} (h : x.joins e y = true) : y.stop.isSome = true := by
  unfold Span.joins at h
  split at h
  · next hy => rw [hy]; rfl
  · cases h

/-- R7: a span merged holds what it held. -/
theorem holds_mergeSpan {e p : Pos} (k : Nat) {x : Span} (l : List Span) (hx : x.stop.isSome = true) (h : x.holds e p) :
    (mergeSpan e k x l).1.holds e p := by
  induction k generalizing x l with
  | zero => exact h
  | succ k ih =>
    unfold mergeSpan
    split_ifs
    · exact ih _ (Span.isSome_foldl_join _ hx)
        (Span.holds_foldl_join hx (fun z hz => Span.isSome_of_joins (List.mem_filter.mp hz).2) (.inl h))
    · exact h

/-- R7: the board of a span merged with others stays held, by the span merged where it is no longer there. -/
theorem mem_or_holds_mergeSpan {e : Pos} (p : Pos) (k : Nat) {x y : Span} {l : List Span} (hx : x.stop.isSome = true) (hy : y ∈ l) :
    y ∈ (mergeSpan e k x l).2 ∨ y.stop.isSome = true ∧ (y.holds e p → (mergeSpan e k x l).1.holds e p) := by
  induction k generalizing x l with
  | zero => exact .inl hy
  | succ k ih =>
    unfold mergeSpan
    split_ifs
    · by_cases hj : x.joins e y = true
      · have joins : y ∈ l.filter (x.joins e) := List.mem_filter.mpr ⟨hy, hj⟩
        have closed : ∀ z ∈ l.filter (x.joins e), z.stop.isSome = true := fun z hz => Span.isSome_of_joins (List.mem_filter.mp hz).2
        exact .inr ⟨Span.isSome_of_joins hj, fun h => holds_mergeSpan k _ (Span.isSome_foldl_join _ hx)
          (Span.holds_foldl_join hx closed (.inr ⟨y, joins, h⟩))⟩
      · exact ih (Span.isSome_foldl_join _ hx) (List.mem_filter.mpr ⟨hy, by simp [hj]⟩)
    · exact .inl hy

/-- Some span of a list holds a position. -/
def Held (e p : Pos) (l : List Span) : Prop := ∃ x ∈ l, x.holds e p

theorem held_mapMerge_of_span {e p : Pos} {x : Span} (l : List Span) (hx : x.stop.isSome = true) (h : x.holds e p) :
    Held e p (mapMerge e x l).2 :=
  ⟨_, (mapInsert_perm _ _ _).mem_iff.mpr (.head _), holds_mergeSpan _ l hx h⟩

theorem held_mapMerge_of_list {e p : Pos} {x : Span} {l : List Span} (hx : x.stop.isSome = true) (h : Held e p l) :
    Held e p (mapMerge e x l).2 := by
  obtain ⟨y, hy, hold⟩ := h
  rcases mem_or_holds_mergeSpan p (l.length + 1) hx hy with hmem | ⟨-, hkeep⟩
  · exact ⟨y, (mapInsert_perm _ _ _).mem_iff.mpr (.tail _ hmem), hold⟩
  · exact ⟨_, (mapInsert_perm _ _ _).mem_iff.mpr (.head _), hkeep hold⟩

/-! ### Coverage of a list of spans -/

/-- R5: some span of a list covers a position. -/
def State.listCovers (s : State) (p : Pos) (l : List Span) : Prop := ∃ x ∈ l, s.spanCovers p x

theorem Held.listCovers {s : State} {p : Pos} {l : List Span} (h : Held s.tracker.pos p l) : s.listCovers p l := by
  obtain ⟨x, hx, hold⟩ := h
  exact ⟨x, hx, hold.covers⟩

/-- What a list covers, another covers whose spans cover what those of the first do. -/
theorem State.listCovers.of_forall {s : State} {p : Pos} {l l' : List Span} (h : s.listCovers p l)
    (hl : ∀ x ∈ l, s.spanCovers p x → s.listCovers p l') : s.listCovers p l' := by
  obtain ⟨x, hx, hc⟩ := h
  exact hl x hx hc

theorem State.listCovers_mapInsert {s : State} {p : Pos} {x : Span} {l : List Span} (e : Pos) :
    s.listCovers p (mapInsert e x l) ↔ s.spanCovers p x ∨ s.listCovers p l := by
  simp only [State.listCovers, (mapInsert_perm e x l).mem_iff, List.mem_cons, exists_eq_or_imp]

/-- R7: merging a closed span covers what it and the list covered. -/
theorem State.listCovers_mapMerge {s : State} {p : Pos} {x : Span} {l : List Span} (hx : x.stop.isSome = true)
    (h : s.spanCovers p x ∨ s.listCovers p l) : s.listCovers p (mapMerge s.tracker.pos x l).2 := by
  rcases h with h | ⟨y, hy, hc⟩
  · obtain ⟨q, hq⟩ := Option.isSome_iff_exists.mp hx
    exact (held_mapMerge_of_span l hx ⟨q, hq, (State.spanCovers_of_stop hq).mp h⟩).listCovers
  · rcases mem_or_holds_mergeSpan (e := s.tracker.pos) p (l.length + 1) hx hy with hmem | ⟨hclosed, hkeep⟩
    · exact ⟨y, (mapInsert_perm _ _ _).mem_iff.mpr (.tail _ hmem), hc⟩
    · obtain ⟨q, hq⟩ := Option.isSome_iff_exists.mp hclosed
      exact ⟨_, (mapInsert_perm _ _ _).mem_iff.mpr (.head _), (hkeep ⟨q, hq, (State.spanCovers_of_stop hq).mp hc⟩).covers⟩

/-- A span taken out, another put in that covers what it did. -/
theorem State.listCovers_without {s : State} {p : Pos} {t : Span} {l : List Span} (h : s.listCovers p l) :
    s.spanCovers p t ∨ s.listCovers p (l.filter (fun y => !decide (y = t))) := by
  obtain ⟨x, hx, hc⟩ := h
  by_cases hxt : x = t
  · exact .inl (hxt ▸ hc)
  · exact .inr ⟨x, List.mem_filter.mpr ⟨hx, by simp [hxt]⟩, hc⟩

/-! ### Folding (R10, R11) -/

/-- R10: a target that a closed span is folded into covers what it did, and the board of the span. -/
theorem State.spanCovers_foldClosed {s : State} {p : Pos} {t x : Span} (hx : x.stop.isSome = true)
    (h : s.spanCovers p t ∨ s.spanCovers p x) : s.spanCovers p (foldClosed s.tracker.pos t x) := by
  obtain ⟨q, hq⟩ := Option.isSome_iff_exists.mp hx
  rw [State.spanCovers_of_stop hq] at h
  have low : lead s.tracker.pos (posMin s.tracker.pos t.start x.start) ≤ lead s.tracker.pos t.start ∧
      lead s.tracker.pos (posMin s.tracker.pos t.start x.start) ≤ lead s.tracker.pos x.start := by
    rw [lead_posMin]
    exact ⟨min_le_left _ _, min_le_right _ _⟩
  cases ht : t.stop with
  | some r =>
    rw [State.spanCovers_of_stop ht] at h
    have folded : foldClosed s.tracker.pos t x =
        { t with start := posMin s.tracker.pos t.start x.start, stop := some (posMax s.tracker.pos r q), coarse := true } := by
      simp only [foldClosed, ht, hq, Option.getD_some]
    rw [folded, State.spanCovers_of_stop rfl]
    rcases h with h | h
    · exact h.widen low.1 (by rw [lead_posMax]; exact le_max_left _ _)
    · exact h.widen low.2 (by rw [lead_posMax]; exact le_max_right _ _)
  | none =>
    rw [State.spanCovers_of_open ht] at h
    cases hf : t.floor with
    | none =>
      have folded : foldClosed s.tracker.pos t x =
          { t with start := posMin s.tracker.pos t.start x.start, stop := none, coarse := true, floor := some q } := by
        simp only [foldClosed, ht, hf, hq, Option.getD_some]
      have high (src : Source) : lead s.tracker.pos (s.reachOf src none) ≤ lead s.tracker.pos (s.reachOf src (some q)) ∧
          lead s.tracker.pos q ≤ lead s.tracker.pos (s.reachOf src (some q)) := by
        rw [State.lead_reachOf_some]
        exact ⟨le_max_left _ _, le_max_right _ _⟩
      rw [folded, State.spanCovers_of_open rfl]
      rw [hf] at h
      rcases h with h | h
      · exact h.widen low.1 (high _).1
      · exact h.widen low.2 (high _).2
    | some f =>
      have folded : foldClosed s.tracker.pos t x =
          { t with
            start := posMin s.tracker.pos t.start x.start, stop := none, coarse := true, floor := some (posMax s.tracker.pos f q) } := by
        simp only [foldClosed, ht, hf, hq, Option.getD_some]
      have high (src : Source) : lead s.tracker.pos (s.reachOf src (some f)) ≤
          lead s.tracker.pos (s.reachOf src (some (posMax s.tracker.pos f q))) ∧
          lead s.tracker.pos q ≤ lead s.tracker.pos (s.reachOf src (some (posMax s.tracker.pos f q))) := by
        rw [State.lead_reachOf_some, State.lead_reachOf_some, lead_posMax]
        exact ⟨max_le_max le_rfl (le_max_left _ _), (le_max_right _ _).trans (le_max_right _ _)⟩
      rw [folded, State.spanCovers_of_open rfl]
      rw [hf] at h
      rcases h with h | h
      · exact h.widen low.1 (high _).1
      · exact h.widen low.2 (high _).2

/-- R11: a closed target that an open span is folded into covers what it did. -/
theorem State.spanCovers_foldOpen {s : State} {p : Pos} {t x : Span} (ht : t.stop.isSome = true) (h : s.spanCovers p t) :
    s.spanCovers p (foldOpen s.tracker.pos t x) := by
  obtain ⟨q, hq⟩ := Option.isSome_iff_exists.mp ht
  rw [State.spanCovers_of_stop hq] at h
  rw [State.spanCovers_of_open rfl]
  refine h.widen (by show lead _ (posMin _ _ _) ≤ _; rw [lead_posMin]; exact min_le_left _ _) ?_
  show _ ≤ lead _ (s.reachOf _ t.stop)
  rw [hq, State.lead_reachOf_some]
  exact le_max_right _ _

theorem foldTarget_isSome {e start : Pos} {l : List Span} (h : l ≠ []) : (foldTarget e start l).isSome = true := by
  unfold foldTarget
  split
  · rfl
  · obtain ⟨x, l, rfl⟩ := List.exists_cons_of_ne_nil h
    rfl

/-! ### What the operations of the map cover -/

/-- A state whose map alone may differ covers what its spans cover. -/
theorem State.covers_of_spans {s t : State} {F : List Part} (h : t.erase F = s.erase F) (hp : .tracker ∉ F) (hc : .cfg ∉ F) (p : Pos) :
    t.covers p = true ↔ s.listCovers p t.map.spans := by
  rw [State.covers_iff]
  simp only [State.listCovers, State.spanCovers_congr (tracker_of_erase h hp) (cfg_of_erase h hc)]

theorem State.covers_iff_list (s : State) (p : Pos) : s.covers p = true ↔ s.listCovers p s.map.spans := s.covers_iff p

/-- R6: the span an addition makes, where it is not dropped. -/
def State.newSpan (s : State) (kind : SpanKind) (src : Source) (a b : Pos) : Span :=
  { kind := kind, source := src, start := clampStart s.tracker.pos a, stop := some b, coarse := false, openFor := none, floor := none,
    age := s.map.entryAge }

/-- R6: a span is dropped whose board lies at or before E, or is empty. -/
def State.drops (s : State) (a b : Pos) : Bool :=
  s.cfg.geometry.isNone || isReached s.tracker.pos b || !isBelow s.tracker.pos (clampStart s.tracker.pos a) b

theorem State.addSpanTell_drops {s : State} {a b : Pos} (h : s.drops a b = true) (kind : SpanKind) (src : Source) :
    s.addSpanTell kind src a b = (s, none) := if_pos h

/-- R6, R7, R10: the spans after an addition cover what the map covered, and the board added. -/
theorem State.listCovers_addSpanTell {s : State} {a b p : Pos} (h : s.drops a b = false) (kind : SpanKind) (src : Source)
    (hc : s.listCovers p s.map.spans ∨ s.spanCovers p (s.newSpan kind src a b)) :
    s.listCovers p (s.addSpanTell kind src a b).1.map.spans := by
  unfold State.drops at h
  simp only [State.addSpanTell]
  rw [if_neg (Bool.eq_false_iff.mp h)]
  split_ifs with hj hroom
  · rw [State.spans_setSpans]
    exact State.listCovers_mapMerge rfl hc.symm
  · rw [State.spans_setSpans]
    exact (State.listCovers_mapInsert _).mpr hc.symm
  · have filled : s.map.spans ≠ [] := by
      intro hnil
      rw [hnil] at hroom
      exact hroom (by decide)
    obtain ⟨t, ht⟩ := Option.isSome_iff_exists.mp
      (foldTarget_isSome (e := s.tracker.pos) (start := clampStart s.tracker.pos a) filled)
    have folded : s.spanCovers p (foldClosed s.tracker.pos t (s.newSpan kind src a b)) ∨
        s.listCovers p (s.map.spans.filter (fun y => !decide (y = t))) := by
      rcases hc with hc | hc
      · exact (State.listCovers_without hc).imp_left fun h => State.spanCovers_foldClosed rfl (.inl h)
      · exact .inl (State.spanCovers_foldClosed rfl (.inr hc))
    simp only [ht]
    split_ifs with hclosed
    · rw [State.spans_raiseMap, State.spans_setSpans]
      exact State.listCovers_mapMerge hclosed folded
    · rw [State.spans_raiseMap, State.spans_setSpans]
      exact (State.listCovers_mapInsert _).mpr folded

/-- R5 to R14: no operation of the map uncovers board. -/
theorem State.covers_addSpan {s : State} {p : Pos} (h : s.covers p = true) (kind : SpanKind) (src : Source) (a b : Pos) :
    (s.addSpan kind src a b).covers p = true := by
  cases hd : s.drops a b with
  | true => rw [State.addSpan, State.addSpanTell_drops hd, h]
  | false =>
    rw [State.covers_of_spans (erase_addSpan s kind src a b (F := [.map, .inbox, .choice, .notices]) (by decide)) (by decide) (by decide)]
    exact State.listCovers_addSpanTell hd kind src (.inl ((s.covers_iff_list p).mp h))

/-- R6: a span added covers its board beyond E. -/
theorem State.covers_added {s : State} {a b p : Pos} (hg : s.cfg.geometry.isSome = true) (hb : isReached s.tracker.pos b = false)
    (hp : Within s.tracker.pos (clampStart s.tracker.pos a) b p) (kind : SpanKind) (src : Source) :
    (s.addSpan kind src a b).covers p = true := by
  have kept : s.drops a b = false := by
    rw [State.drops, Option.isNone_eq_false_iff.mpr hg, hb, (isBelow_iff _ _ _).mpr (hp.1.trans_lt hp.2)]
    rfl
  rw [State.covers_of_spans (erase_addSpan s kind src a b (F := [.map, .inbox, .choice, .notices]) (by decide)) (by decide) (by decide)]
  exact State.listCovers_addSpanTell kept kind src (.inr ((State.spanCovers_of_stop rfl).mpr hp))

theorem State.covers_openSpan {s : State} {p : Pos} (h : s.covers p = true) (kind : SpanKind) (src : Source) (a : Pos) :
    (s.openSpan kind src a).covers p = true := by
  rw [State.covers_of_spans (erase_openSpan s kind src a (F := [.map, .inbox, .choice, .notices]) (by decide)) (by decide) (by decide)]
  rw [State.covers_iff_list] at h
  simp only [State.openSpan]
  split
  · exact h
  · split
    · rw [State.spans_setSpans]
      exact (State.listCovers_mapInsert _).mpr (.inr h)
    · split
      · exact h
      · next t ht =>
        have closed : t.stop.isSome = true := (List.mem_filter.mp (foldTarget_mem ht)).2
        rw [State.spans_raiseMap, State.spans_setSpans]
        exact (State.listCovers_mapInsert _).mpr ((State.listCovers_without h).imp_left (State.spanCovers_foldOpen closed))

/-- R9: closing a span at its station. -/
theorem State.closeSpan_station {s : State} {src : Source} {t : Span} (ht : s.openSpanOf src = some t) :
    s.closeSpan src (s.tracker.pos.plus (s.distance src)) =
      if isBelow s.tracker.pos t.start (s.reachOf src t.floor) then
        s.setSpans (mapMerge s.tracker.pos { t with stop := some (s.reachOf src t.floor), openFor := none, floor := none }
          (s.map.spans.filter (fun x => !decide (x = t)))).2 s.map.nextAge
      else s.setSpans (s.map.spans.filter (fun x => !decide (x = t))) s.map.nextAge := by
  unfold State.closeSpan
  rw [ht]
  obtain ⟨kind, source, start, stop, coarse, openFor, floor, age⟩ := t
  cases floor <;> rfl

/-- R9: a span closed at its station covers what it did. -/
theorem State.covers_closeSpan {s : State} {p : Pos} (hs : s.SpansOk) (h : s.covers p = true) (src : Source) :
    (s.closeSpan src (s.tracker.pos.plus (s.distance src))).covers p = true := by
  rw [State.covers_of_spans (erase_closeSpan s src _ (F := [.map, .inbox, .choice]) (by decide)) (by decide) (by decide)]
  rw [State.covers_iff_list] at h
  cases ht : s.openSpanOf src with
  | none =>
    simp only [State.closeSpan, ht]
    exact h
  | some t =>
    rw [State.closeSpan_station ht]
    obtain ⟨mem, opens⟩ := openSpanOf_mem ht
    have still : t.stop = none := by
      have named := ((spansOk_iff s).mp hs).1 t mem
      rw [Span.Named, opens] at named
      exact Option.isNone_iff_eq_none.mp named.symm
    have top : s.spanCovers p t ↔ Within s.tracker.pos t.start (s.reachOf src t.floor) p := by
      rw [State.spanCovers_of_open still, opens, Option.getD_some]
    split_ifs with hbelow
    · rw [State.spans_setSpans]
      refine State.listCovers_mapMerge rfl ((State.listCovers_without h).imp_left fun hc => ?_)
      exact (State.spanCovers_of_stop rfl).mpr (top.mp hc)
    · rw [State.spans_setSpans]
      refine (State.listCovers_without h).resolve_left fun hc => hbelow ?_
      exact (isBelow_iff _ _ _).mpr ((top.mp hc).1.trans_lt (top.mp hc).2)

theorem State.covers_prune {s : State} {p c : Pos} (h : s.covers p = true) (hc : isBelow s.tracker.pos p c = false) :
    (s.prune c).covers p = true := by
  rw [State.covers_of_spans (erase_prune s c (F := [.map, .inbox, .choice]) (by decide)) (by decide) (by decide)]
  rw [State.covers_iff_list] at h
  obtain ⟨x, hx, hcov⟩ := h
  rw [State.prune, State.spans_setSpans]
  refine ⟨x, List.mem_filter.mpr ⟨hx, ?_⟩, hcov⟩
  cases hq : x.stop with
  | none => rfl
  | some q =>
    rw [State.spanCovers_of_stop hq] at hcov
    exact (isBelow_iff _ _ _).mpr (((isBelow_eq_false_iff _ _ _).mp hc).trans_lt hcov.2)

/-- Settles O26. -/
theorem mapKeepsCoverage : Obligations.MapKeepsCoverage := by
  intro s kind src a b p
  refine ⟨fun hs h => ⟨State.covers_addSpan h kind src a b, State.covers_openSpan h kind src a, State.covers_closeSpan hs h src,
    State.covers_prune h⟩, fun hg hb hlo hhi => ?_⟩
  exact State.covers_added hg hb ⟨(isBelow_eq_false_iff _ _ _).mp hlo, (isBelow_iff _ _ _).mp hhi⟩ kind src

/-- Settles O25. -/
theorem addRejectMarksBoard : Obligations.AddRejectMarksBoard := by
  intro tag a b s h d
  have refuses {st : Status} (ho : h.reqAddReject a b = (h, .just st)) :
      exec (.addReject tag a b) s = .next (h.answered 0x10 tag st []).refreshLimits :=
    run_just (owner := fun t => t.reqAddReject a b) (by decide) ho rfl
  refine ⟨fun hu => refuses (if_pos hu), fun hu hd => refuses ((if_neg hu).trans (if_pos hd)), fun hu hd0 hd1 hr => ?_,
    fun hu hd0 hd1 hr => ?_⟩
  · have fits : ¬(d = 0 ∨ 2147483648 ≤ d) := by omega
    exact refuses ((if_neg hu).trans ((if_neg fits).trans (if_pos (decide_eq_true hr))))
  · have fits : ¬(d = 0 ∨ 2147483648 ≤ d) := by omega
    have ahead : ¬isReached h.tracker.pos b = true := by
      rw [isReached, decide_eq_true_iff]
      exact Nat.not_lt.mpr hr
    refine ⟨_, _, rfl, ?_, ?_⟩
    · exact eq_patch_of_erase (F := [.map, .notices, .inbox, .choice]) (erase_addSpanTell _ _ _ _ _ (by decide))
    · exact run_okWith_finish (owner := fun t => t.reqAddReject a b) (by decide)
        ((if_neg hu).trans ((if_neg fits).trans (if_neg ahead)))

end Sys2Proof.Machine

/-! The completion of a splice: the joint's spans, and the statement about the end of TRANSFER (O40). -/

namespace Sys2Proof.Machine

/-! ### Closed spans hold their board -/

theorem Held.mapInsert {e p : Pos} {x : Span} {l : List Span} (h : x.holds e p ∨ Held e p l) : Held e p (mapInsert e x l) := by
  rcases h with h | ⟨y, hy, h⟩
  · exact ⟨x, (mapInsert_perm _ _ _).mem_iff.mpr (.head _), h⟩
  · exact ⟨y, (mapInsert_perm _ _ _).mem_iff.mpr (.tail _ hy), h⟩

/-- R6, R7: with room, an addition holds what was held, and the board added. -/
theorem State.held_addSpanTell {s : State} {a b p : Pos} (hd : s.drops a b = false) (hroom : s.map.spans.length < 48) (kind : SpanKind)
    (src : Source) (h : Held s.tracker.pos p s.map.spans ∨ Within s.tracker.pos (clampStart s.tracker.pos a) b p) :
    Held s.tracker.pos p (s.addSpanTell kind src a b).1.map.spans := by
  have fresh : Within s.tracker.pos (clampStart s.tracker.pos a) b p → (s.newSpan kind src a b).holds s.tracker.pos p :=
    fun hw => ⟨b, rfl, hw⟩
  unfold State.drops at hd
  simp only [State.addSpanTell]
  rw [if_neg (Bool.eq_false_iff.mp hd)]
  split_ifs with hj hfull
  · rw [State.spans_setSpans]
    exact h.elim (held_mapMerge_of_list rfl) (fun hw => held_mapMerge_of_span _ rfl (fresh hw))
  · rw [State.spans_setSpans]
    exact Held.mapInsert (h.symm.imp_left fresh)
  · exact absurd hroom hfull

theorem State.held_addSpanTell_of_held {s : State} {p : Pos} (hroom : s.map.spans.length < 48) (kind : SpanKind) (src : Source)
    (a b : Pos) (h : Held s.tracker.pos p s.map.spans) : Held s.tracker.pos p (s.addSpanTell kind src a b).1.map.spans := by
  cases hd : s.drops a b with
  | true => rw [State.addSpanTell_drops hd]; exact h
  | false => exact State.held_addSpanTell hd hroom kind src (.inl h)

/-- R6: a span is told where it is not dropped. -/
theorem State.isSome_addSpanTell {s : State} {a b : Pos} (hd : s.drops a b = false) (hroom : s.map.spans.length < 48) (kind : SpanKind)
    (src : Source) : (s.addSpanTell kind src a b).2.isSome = true := by
  unfold State.drops at hd
  simp only [State.addSpanTell]
  rw [if_neg (Bool.eq_false_iff.mp hd)]
  split_ifs with hj hfull
  · rfl
  · rfl
  · exact absurd hroom hfull

theorem State.length_addSpanTell (s : State) (kind : SpanKind) (src : Source) (a b : Pos) (hroom : s.map.spans.length < 48) :
    (s.addSpanTell kind src a b).1.map.spans.length ≤ s.map.spans.length + 1 := by
  simp only [State.addSpanTell]
  split_ifs with hd hj hfull
  · exact Nat.le_succ _
  · rw [State.spans_setSpans, mapMerge, length_mapInsert]
    exact Nat.succ_le_succ (mergeSpan_sublist _ _ _ _).length_le
  · rw [State.spans_setSpans, length_mapInsert]
  · exact absurd hroom hfull

theorem State.SpansOk.addSpanTell {s : State} (hs : s.SpansOk) (kind : SpanKind) (src : Source) (a b : Pos) :
    (s.addSpanTell kind src a b).1.SpansOk :=
  (spansOk_iff _).mpr (((spansOk_iff s).mp hs).change (s.mapChange_addSpanTell kind src a b))

/-- R9: closing a span, anywhere, leaves what the closed ones hold. -/
theorem State.held_closeSpan {s : State} {p : Pos} (hs : s.SpansOk) (h : Held s.tracker.pos p s.map.spans) (src : Source) (a : Pos) :
    Held s.tracker.pos p (s.closeSpan src a).map.spans := by
  simp only [State.closeSpan]
  split
  · exact h
  · next t ht =>
    obtain ⟨mem, opens⟩ := openSpanOf_mem ht
    have others : Held s.tracker.pos p (s.map.spans.filter (fun x => !decide (x = t))) := by
      obtain ⟨x, hx, hold⟩ := h
      refine ⟨x, List.mem_filter.mpr ⟨hx, ?_⟩, hold⟩
      have ne : x ≠ t := by
        rintro rfl
        have named := ((spansOk_iff s).mp hs).1 x mem
        obtain ⟨q, hq, -⟩ := hold
        rw [Span.Named, opens, hq] at named
        cases named
      simp [ne]
    split_ifs
    · rw [State.spans_setSpans]
      exact held_mapMerge_of_list rfl others
    · rw [State.spans_setSpans]
      exact others

/-! ### The joint (R123) -/

/-- R123 step 3: the board between b and the joint. -/
def Seq.mismatchRange (q : Seq) (joint : Pos) : Option (Pos × Pos) :=
  match q.plan with
  | none => none
  | some p => if isBeyond p.b joint then some (p.b, joint) else if isBeyond joint p.b then some (joint, p.b) else none

theorem ahead_swap (a b : Pos) (h : 0 < a.ahead b) : b.ahead a < 0 := by
  have ha := a.isLt
  have hb := b.isLt
  simp only [Pos.ahead, BitVec.toInt_eq_toNat_cond, BitVec.toNat_sub] at *
  omega

/-- Of two positions one alone lies beyond the other. -/
theorem not_isBeyond_of_isBeyond {a b : Pos} (h : isBeyond a b = true) : ¬isBeyond b a = true := by
  simp only [isBeyond, decide_eq_true_iff] at *
  exact (ahead_swap a b h).not_gt

theorem not_isBeyond_self (a : Pos) : ¬isBeyond a a = true := fun h => not_isBeyond_of_isBeyond h h

/-- R123 step 2: the SPLICE span is laid. -/
def State.spliceLaid (s : State) (n : Stand) (joint : Pos) : State :=
  s.addSpan .splice (srcOf n) (joint.minus (s.standCfg n).guardBefore)
    ((joint.plus (s.standCfg n).spliceLen).plus (s.standCfg n).guardAfter)

/-- R123 steps 2 and 3: both spans are laid; with the MISMATCH span told. -/
def State.jointLaid (s : State) (n : Stand) (q : Seq) (joint : Pos) : State × Option (Pos × Pos) :=
  match q.mismatchRange joint with
  | none => (s.spliceLaid n joint, none)
  | some r =>
    (((s.spliceLaid n joint).addSpanTell .mismatch (srcOf n) r.1 r.2).1,
      if ((s.spliceLaid n joint).addSpanTell .mismatch (srcOf n) r.1 r.2).2.isSome then some (clampStart s.tracker.pos r.1, r.2) else none)

theorem State.layJoint_eq (s : State) (n : Stand) (q : Seq) (joint : Pos) :
    s.layJoint n q joint = ((s.jointLaid n q joint).1.closeMismatch n joint, (s.jointLaid n q joint).2) := by
  cases hp : q.plan with
  | none =>
    simp only [State.layJoint, State.jointLaid, Seq.mismatchRange, hp]
    rfl
  | some p =>
    simp only [State.layJoint, State.jointLaid, Seq.mismatchRange, hp]
    split_ifs <;> rfl

theorem State.erase_jointLaid (s : State) (n : Stand) (q : Seq) (joint : Pos) :
    (s.jointLaid n q joint).1.erase [.map, .inbox, .choice, .notices] = s.erase [.map, .inbox, .choice, .notices] := by
  unfold State.jointLaid
  split
  · exact erase_addSpan _ _ _ _ _ (by decide)
  · exact (erase_addSpanTell _ _ _ _ _ (by decide)).trans (erase_addSpan _ _ _ _ _ (by decide))

theorem State.SpansOk.jointLaid {s : State} (hs : s.SpansOk) (n : Stand) (q : Seq) (joint : Pos) : (s.jointLaid n q joint).1.SpansOk := by
  unfold State.jointLaid
  split
  · exact hs.addSpanTell _ _ _ _
  · exact (State.SpansOk.addSpanTell (s := s.spliceLaid n joint) (hs.addSpanTell _ _ _ _) _ _ _ _)

theorem State.erase_spliceLaid (s : State) (n : Stand) (joint : Pos) :
    (s.spliceLaid n joint).erase [.map, .inbox, .choice, .notices] = s.erase [.map, .inbox, .choice, .notices] :=
  erase_addSpan _ _ _ _ _ (by decide)

theorem State.length_spliceLaid {s : State} (hroom : s.map.spans.length < 47) (n : Stand) (joint : Pos) :
    (s.spliceLaid n joint).map.spans.length < 48 :=
  (s.length_addSpanTell _ _ _ _ (by omega)).trans_lt (by omega)

/-- What is held when the SPLICE span is laid is held when both are. -/
theorem State.held_jointLaid {s : State} {n : Stand} {joint p : Pos} (q : Seq) (hroom : s.map.spans.length < 47)
    (h : Held s.tracker.pos p (s.spliceLaid n joint).map.spans) : Held s.tracker.pos p (s.jointLaid n q joint).1.map.spans := by
  have pos : (s.spliceLaid n joint).tracker.pos = s.tracker.pos := by rw [tracker_of_erase (s.erase_spliceLaid n joint) (by decide)]
  unfold State.jointLaid
  split
  · exact h
  · rw [← pos] at h ⊢
    exact State.held_addSpanTell_of_held (State.length_spliceLaid hroom n joint) _ _ _ _ h

theorem State.not_drops {s : State} {a b p : Pos} (hg : s.cfg.geometry.isSome = true) (hb : isReached s.tracker.pos b = false)
    (hp : Within s.tracker.pos (clampStart s.tracker.pos a) b p) : s.drops a b = false := by
  rw [State.drops, Option.isNone_eq_false_iff.mpr hg, hb, (isBelow_iff _ _ _).mpr (hp.1.trans_lt hp.2)]
  rfl

/-- R123 step 2: the board about the joint, not yet past the knife, is held. -/
theorem State.held_spliceLaid {s : State} {n : Stand} {joint p : Pos} (hg : s.cfg.geometry.isSome = true)
    (hroom : s.map.spans.length < 47)
    (hb : isReached s.tracker.pos ((joint.plus (s.standCfg n).spliceLen).plus (s.standCfg n).guardAfter) = false)
    (hp : Within s.tracker.pos (clampStart s.tracker.pos (joint.minus (s.standCfg n).guardBefore))
      ((joint.plus (s.standCfg n).spliceLen).plus (s.standCfg n).guardAfter) p) :
    Held s.tracker.pos p (s.spliceLaid n joint).map.spans :=
  State.held_addSpanTell (State.not_drops hg hb hp) (by omega) _ _ (.inr hp)

/-- R123 step 3: the board between b and the joint, not yet past the knife, is held, and goes into the SPLICE_END. -/
theorem State.jointLaid_mismatch {s : State} {n : Stand} {q : Seq} {joint lo hi p : Pos} (hr : q.mismatchRange joint = some (lo, hi))
    (hg : s.cfg.geometry.isSome = true) (hroom : s.map.spans.length < 47) (hb : isReached s.tracker.pos hi = false)
    (hp : Within s.tracker.pos (clampStart s.tracker.pos lo) hi p) :
    Held s.tracker.pos p (s.jointLaid n q joint).1.map.spans ∧
      (s.jointLaid n q joint).2 = some (clampStart s.tracker.pos lo, hi) := by
  have frame := s.erase_spliceLaid n joint
  have pos : (s.spliceLaid n joint).tracker = s.tracker := tracker_of_erase frame (by decide)
  have kept : (s.spliceLaid n joint).drops lo hi = false := by
    refine State.not_drops (p := p) ?_ ?_ ?_
    · rw [cfg_of_erase frame (by decide)]
      exact hg
    · rw [pos]
      exact hb
    · rw [pos]
      exact hp
  have room := State.length_spliceLaid hroom n joint
  unfold State.jointLaid
  rw [hr]
  refine ⟨?_, if_pos (State.isSome_addSpanTell kept room _ _)⟩
  have held := State.held_addSpanTell (p := p) kept room .mismatch (srcOf n) (.inr (by rw [pos]; exact hp))
  rwa [pos] at held

theorem State.jointLaid_none {s : State} {n : Stand} {q : Seq} {joint : Pos} (hr : q.mismatchRange joint = none) :
    (s.jointLaid n q joint).2 = none := by
  unfold State.jointLaid
  rw [hr]

/-! ### Reports to the Reel Stands (R103) -/

/-- R103: after a roll change the roll of the arm is RUNNING, and the other roll, if it was, is EXPIRED. -/
theorem State.stand_rollChange (s : State) (n : Stand) (m : Arm) :
    ∃ e, (s.rollChange n m).stand n =
      { ((s.stand n).updArm (Arm.other m) Roll.spend).updArm m Roll.run with expiry := e } := by
  obtain ⟨e, l, h⟩ := State.freshExpiry_with (s.updStand n (fun r => (r.updArm (Arm.other m) Roll.spend).updArm m Roll.run)) n
  refine ⟨e, ?_⟩
  rw [State.rollChange, State.standsMarked, stand_markIf, h]
  refine (State.stand_setStand _ _ _).trans ?_
  rw [State.stand_updStand]

theorem State.stand_rollChange_other (s : State) {n k : Stand} (m : Arm) (hk : k ≠ n) : (s.rollChange n m).stand k = s.stand k := by
  obtain ⟨e, l, h⟩ := State.freshExpiry_with (s.updStand n (fun r => (r.updArm (Arm.other m) Roll.spend).updArm m Roll.run)) n
  rw [State.rollChange, State.standsMarked, stand_markIf, h]
  refine (State.stand_setStand_other _ _ hk).trans ?_
  rw [State.stand_updStand_other _ _ hk]

theorem State.arm_rollChange {s : State} {n : Stand} {m : Arm} {x : Roll} (hx : (s.stand n).arm m = some x) :
    ((s.rollChange n m).stand n).arm m = some x.run := by
  obtain ⟨e, h⟩ := s.stand_rollChange n m
  rw [h]
  show (((s.stand n).updArm (Arm.other m) Roll.spend).updArm m Roll.run).arm m = _
  rw [StandRec.updArm, StandRec.arm_setArm_same, StandRec.updArm, StandRec.arm_setArm_of_other, hx]
  rfl

theorem State.arm_other_rollChange {s : State} {n : Stand} {m : Arm} {x : Roll} (hx : (s.stand n).arm (Arm.other m) = some x)
    (hr : x.state = .running) :
    ((s.rollChange n m).stand n).arm (Arm.other m) = some { x with state := .expired } := by
  obtain ⟨e, h⟩ := s.stand_rollChange n m
  rw [h]
  show (((s.stand n).updArm (Arm.other m) Roll.spend).updArm m Roll.run).arm (Arm.other m) = _
  rw [StandRec.updArm, StandRec.arm_setArm_other, StandRec.updArm, StandRec.arm_setArm_same, hx, Option.map_some, Roll.spend, if_pos hr]

/-! ### The end of TRANSFER (R123, R124) -/

/-- R123: the state of a completed splice before the sequence ends, with the MISMATCH span laid. -/
def State.spliceCompleted (s : State) (n : Stand) (q : Seq) : State × Option (Pos × Pos) :=
  let laid := (s.rollChange n q.standby).jointLaid n q (q.joint.getD (s.boardAt n))
  ((laid.1.closeMismatch n (q.joint.getD (s.boardAt n))).updSpl n (fun r => { r with failures := 0, expiryHeld := false }), laid.2)

theorem State.takeTransferExpiry_transfer {s : State} {n : Stand} {q : Seq} (hq : (s.spl n).seq = some q) (hs : q.stage = .transfer) :
    s.takeTransferExpiry n = (s.spliceCompleted n q).1.endSeq n q .complete (s.spliceCompleted n q).2 true := by
  simp only [State.takeTransferExpiry, hq, hs, if_true, State.layJoint_eq, State.spliceCompleted]

theorem State.takeTransferExpiry_idle {s : State} {n : Stand} (h : ∀ q, (s.spl n).seq = some q → q.stage ≠ .transfer) :
    s.takeTransferExpiry n = s := by
  unfold State.takeTransferExpiry
  split
  · rfl
  · next q hq => exact if_neg (h q hq)

/-- The joint of a sequence in TRANSFER. -/
def State.jointOf (s : State) (n : Stand) (q : Seq) : Pos := q.joint.getD (s.boardAt n)

/-- R123: the state of a completed splice with both spans laid. -/
def State.spliceJoined (s : State) (n : Stand) (q : Seq) : State × Option (Pos × Pos) :=
  (s.rollChange n q.standby).jointLaid n q (s.jointOf n q)

theorem State.spliceCompleted_fst (s : State) (n : Stand) (q : Seq) :
    (s.spliceCompleted n q).1 =
      (((s.spliceJoined n q).1.closeMismatch n (s.jointOf n q)).updSpl n (fun r => { r with failures := 0, expiryHeld := false })) := rfl

theorem State.erase_spliceJoined (s : State) (n : Stand) (q : Seq) :
    (s.spliceJoined n q).1.erase [.stands, .map, .inbox, .choice, .notices] = s.erase [.stands, .map, .inbox, .choice, .notices] := by
  refine Eq.trans ?_ (erase_rollChange s n q.standby (by decide))
  unfold State.spliceJoined State.jointLaid
  split
  · exact erase_addSpan _ _ _ _ _ (by decide)
  · exact (erase_addSpanTell _ _ _ _ _ (by decide)).trans (erase_addSpan _ _ _ _ _ (by decide))

theorem State.spl_spliceJoined (s : State) (n : Stand) (q : Seq) (k : Stand) : (s.spliceJoined n q).1.spl k = s.spl k :=
  State.spl_of_erase (s.erase_spliceJoined n q) (by decide) k

theorem State.spl_spliceCompleted (s : State) (n : Stand) (q : Seq) :
    (s.spliceCompleted n q).1.spl n = { s.spl n with mismatchOpen := false, failures := 0, expiryHeld := false } := by
  rw [State.spliceCompleted_fst, State.spl_updSpl, State.spl_closeMismatch, State.spl_spliceJoined]

theorem State.spl_spliceCompleted_other (s : State) {n k : Stand} (q : Seq) (hk : k ≠ n) : (s.spliceCompleted n q).1.spl k = s.spl k := by
  rw [State.spliceCompleted_fst, State.spl_updSpl_other _ _ hk, State.spl_closeMismatch_other _ _ hk, State.spl_spliceJoined]

theorem State.stand_spliceCompleted (s : State) (n : Stand) (q : Seq) (k : Stand) :
    (s.spliceCompleted n q).1.stand k = (s.rollChange n q.standby).stand k := by
  rw [State.spliceCompleted_fst, State.stand_of_erase (erase_updSpl _ _ _ (F := [.splice]) (by decide)) (by decide),
    State.stand_of_erase (erase_closeMismatch _ _ _ (F := [.splice, .map, .inbox, .choice]) (by decide)) (by decide)]
  exact State.stand_of_erase (State.erase_jointLaid _ _ _ _) (by decide) k

theorem State.levels_spliceCompleted (s : State) (n : Stand) (q : Seq) : (s.spliceCompleted n q).1.notices.levels = s.notices.levels := by
  have hub : (s.spliceCompleted n q).1.hub = s.hub := by
    have laid := hub_layJoint (s.rollChange n q.standby) n q (s.jointOf n q)
    rw [State.layJoint_eq] at laid
    rw [State.spliceCompleted_fst, hub_updSpl]
    exact laid.trans (hub_rollChange _ _ _)
  exact congrArg Hub.levels hub

/-- R123 step 4: the map after the open MISMATCH span of the stand, if any, is closed. -/
theorem State.spans_closeMismatch (s : State) (n : Stand) (p : Pos) :
    (s.closeMismatch n p).map.spans = if (s.spl n).mismatchOpen then (s.closeSpan (srcOf n) p).map.spans else s.map.spans := by
  unfold State.closeMismatch
  split <;> rfl

theorem State.held_closeMismatch {s : State} {p : Pos} (hs : s.SpansOk) (h : Held s.tracker.pos p s.map.spans) (n : Stand) (a : Pos) :
    Held s.tracker.pos p (s.closeMismatch n a).map.spans := by
  rw [State.spans_closeMismatch]
  split
  · exact State.held_closeSpan hs h _ _
  · exact h

theorem State.rollChange_keeps (s : State) (n : Stand) (m : Arm) :
    (s.rollChange n m).tracker = s.tracker ∧ (s.rollChange n m).cfg = s.cfg ∧ (s.rollChange n m).map = s.map := by
  have frame := erase_rollChange s n m (F := [.stands, .inbox, .notices]) (by decide)
  exact ⟨tracker_of_erase frame (by decide), cfg_of_erase frame (by decide), map_of_erase frame (by decide)⟩

/-- What the joint holds is covered when the splice is completed. -/
theorem State.covers_takeTransferExpiry {s : State} {n : Stand} {q : Seq} {p : Pos} (hq : (s.spl n).seq = some q)
    (hs : q.stage = .transfer) (hspans : s.SpansOk) (h : Held s.tracker.pos p (s.spliceJoined n q).1.map.spans) :
    (s.takeTransferExpiry n).covers p = true := by
  obtain ⟨tracker, -, map⟩ := s.rollChange_keeps n q.standby
  have ok : (s.spliceJoined n q).1.SpansOk := (State.SpansOk.of_map hspans map).jointLaid _ _ _
  have pos : (s.spliceJoined n q).1.tracker = s.tracker := tracker_of_erase (s.erase_spliceJoined n q) (by decide)
  rw [State.covers_of_spans (erase_takeTransferExpiry s n (F := [.stands, .splice, .regs, .map, .inbox, .choice, .notices]) (by decide))
    (by decide) (by decide), State.takeTransferExpiry_transfer hq hs,
    map_of_erase (erase_endSeq _ _ _ _ _ _ (F := [.splice, .regs, .inbox, .notices]) (by decide)) (by decide)]
  rw [← pos] at h
  have held := State.held_closeMismatch ok h n (s.jointOf n q)
  rw [pos] at held
  exact held.listCovers

/-- Settles O40. -/
theorem transferExpiryCompletes : Obligations.TransferExpiryCompletes := by
  intro n s
  let quiet : State := { s with inbox := [] }
  refine ⟨fun h => ?_, fun q hq hs => ?_⟩
  · have idle : quiet.takeTransferExpiry n = quiet := State.takeTransferExpiry_idle h
    exact (run_quiet s (fun t => t.takeTransferExpiry n) (by rw [show State.takeTransferExpiry { s with inbox := [] } n = _ from idle])).trans
      (by rw [show State.takeTransferExpiry { s with inbox := [] } n = _ from idle])
  have done : quiet.takeTransferExpiry n = (quiet.spliceCompleted n q).1.endSeq n q .complete (quiet.spliceCompleted n q).2 true :=
    State.takeTransferExpiry_transfer hq hs
  have spl : (quiet.spliceCompleted n q).1.spl n = { s.spl n with mismatchOpen := false, failures := 0, expiryHeld := false } :=
    quiet.spl_spliceCompleted n q
  have ends := (quiet.spliceCompleted n q).1.spl_endSeq n q .complete (quiet.spliceCompleted n q).2 true
  rw [← done, spl] at ends
  have stand (k : Stand) : (quiet.takeTransferExpiry n).stand k = (quiet.rollChange n q.standby).stand k := by
    rw [done, State.stand_of_erase (erase_endSeq _ _ _ _ _ _ (F := [.splice, .regs, .inbox, .notices]) (by decide)) (by decide),
      State.stand_spliceCompleted]
  have map : (quiet.takeTransferExpiry n).map.spans = ((quiet.spliceJoined n q).1.closeMismatch n (quiet.jointOf n q)).map.spans := by
    rw [done, map_of_erase (erase_endSeq _ _ _ _ _ _ (F := [.splice, .regs, .inbox, .notices]) (by decide)) (by decide)]
    rfl
  obtain ⟨htracker, hcfg, hmap⟩ := quiet.rollChange_keeps n q.standby
  refine ⟨quiet.takeTransferExpiry n, _, (quiet.spliceCompleted n q).1.spliceEndOf n q .complete (quiet.spliceCompleted n q).2, rfl, ?_,
    by rw [done]; exact State.inbox_endSeq _ _ _ _ _ _, by rw [ends], by rw [ends], by rw [ends], by rw [ends], by rw [ends], by rw [ends],
    rfl, rfl, rfl, rfl, fun hlevel => ?_, fun x hx => ⟨x.run, ?_, rfl, rfl⟩, fun x hx hr => ?_, fun k hk => ⟨?_, ?_⟩, by rw [ends],
    fun hm hok => ?_, fun hplan => ?_, fun j hj hg hroom hok => ?_⟩
  · refine eq_patch_of_erase (F := [.stands, .splice, .map, .regs, .notices, .inbox, .choice]) ?_
    rw [erase_takeTransferExpiry _ _ (by decide), erase_with_inbox _ _ (by decide)]
  · rw [done, State.notices_endSeq]
    refine Notices.waiting_occur _ ?_
    rw [State.levels_spliceCompleted]
    exact hlevel
  · rw [stand]
    exact State.arm_rollChange hx
  · rw [stand]
    exact State.arm_other_rollChange hx hr
  · rw [stand, State.stand_rollChange_other _ _ hk]
    rfl
  · rw [done, State.spl_endSeq_other _ _ _ _ _ hk, State.spl_spliceCompleted_other _ _ hk]
    rfl
  · have ok : (quiet.spliceJoined n q).1.SpansOk :=
      State.SpansOk.jointLaid (State.SpansOk.of_map (s := quiet) (hok.of_map rfl) hmap) _ _ _
    rw [map, State.spans_closeMismatch, State.spl_spliceJoined, if_pos (show (quiet.spl n).mismatchOpen = true from hm)]
    exact openSpanOf_none.mp (State.openSpanOf_closeSpan ok _ _)
  · exact State.jointLaid_none (by rw [Seq.mismatchRange, hplan])
  · intro c ahead
    have joint : quiet.jointOf n q = j := by rw [State.jointOf, hj]; rfl
    have geometry : (quiet.rollChange n q.standby).cfg.geometry.isSome = true := by rw [hcfg]; exact hg
    have room : (quiet.rollChange n q.standby).map.spans.length < 47 := by rw [hmap]; exact hroom
    have cfg : (quiet.rollChange n q.standby).standCfg n = s.standCfg n := by
      rw [State.standCfg, hcfg, State.standCfg]
    have within {lo hi x : Pos} (h : ahead lo hi x) : isReached (quiet.rollChange n q.standby).tracker.pos hi = false ∧
        Within (quiet.rollChange n q.standby).tracker.pos (clampStart (quiet.rollChange n q.standby).tracker.pos lo) hi x := by
      rw [htracker]
      exact ⟨h.1, (isBelow_eq_false_iff _ _ _).mp h.2.1, (isBelow_iff _ _ _).mp h.2.2⟩
    have covered {x : Pos} (h : Held (quiet.rollChange n q.standby).tracker.pos x
        ((quiet.rollChange n q.standby).jointLaid n q j).1.map.spans) : (quiet.takeTransferExpiry n).covers x = true := by
      refine State.covers_takeTransferExpiry hq hs (hok.of_map rfl) ?_
      rw [htracker] at h
      rw [State.spliceJoined, joint]
      exact h
    refine ⟨fun x hx => ?_, fun p hp => ⟨fun hb => ?_, fun lo hi x hrange hx => ?_⟩⟩
    · obtain ⟨hb, hw⟩ := within hx
      refine covered (State.held_jointLaid q room (State.held_spliceLaid geometry room ?_ ?_))
      · rw [cfg]
        exact hb
      · rw [cfg]
        exact hw
    · show (quiet.spliceJoined n q).2 = none
      rw [State.spliceJoined, joint]
      refine State.jointLaid_none ?_
      subst hb
      rw [Seq.mismatchRange, hp]
      exact (if_neg (not_isBeyond_self p.b)).trans (if_neg (not_isBeyond_self p.b))
    · obtain ⟨hb, hw⟩ := within hx
      have range : q.mismatchRange j = some (lo, hi) := by
        rw [Seq.mismatchRange, hp]
        dsimp only
        rcases hrange with ⟨hbeyond, rfl, rfl⟩ | ⟨hbeyond, rfl, rfl⟩
        · exact if_pos hbeyond
        · exact (if_neg (not_isBeyond_of_isBeyond hbeyond)).trans (if_pos hbeyond)
      obtain ⟨held, told⟩ := State.jointLaid_mismatch range geometry room hb hw
      refine ⟨covered held, ?_⟩
      show (quiet.spliceJoined n q).2 = _
      rw [State.spliceJoined, joint, told, htracker]

end Sys2Proof.Machine

/-! The Order Book: what a placement pass does to the orders, and the statements about planning, ADD_ORDER, CHANGE_COUNT and CANCEL_ORDER
(O19, O20, O23, O24). -/

namespace Sys2Proof.Machine

/-! ### Freezing (R29) -/

/-- R29: an order whose end is frozen. -/
def Order.freeze (o : Order) : Order := { o with frozen := true, state := if o.state = .placed then .frozen else o.state }

/-- A function on orders that freezes some and leaves the others. -/
def FreezesSome (g : Order → Order) : Prop := ∀ o, g o = o ∨ g o = o.freeze

theorem Order.freeze_freeze (o : Order) : o.freeze.freeze = o.freeze := by
  by_cases h : o.state = .placed
  · simp only [Order.freeze, h, if_true, reduceCtorEq, if_false]
  · simp only [Order.freeze, h, if_false]

theorem FreezesSome.comp {f g : Order → Order} (hf : FreezesSome f) (hg : FreezesSome g) : FreezesSome (f ∘ g) := by
  intro o
  rcases hg o with h | h
  · rw [Function.comp_apply, h]
    exact hf o
  · rw [Function.comp_apply, h]
    rcases hf o.freeze with h' | h'
    · exact .inr h'
    · exact .inr (h'.trans (Order.freeze_freeze o))

theorem book_boundaryActions (s : State) (o next : Order) : (s.boundaryActions o next).book = s.book := by
  unfold State.boundaryActions
  split <;> rfl

/-- R29: freezing an order freezes those of its id in the book. -/
theorem State.book_freezeOrder (s : State) (o : Order) :
    (s.freezeOrder o).book =
      { s.book with orders := s.book.orders.map (fun x => if x.spec.id = o.spec.id then x.freeze else x) } := by
  simp only [State.freezeOrder]
  split
  · exact book_boundaryActions _ _ _
  · rfl

theorem book_register (s : State) (p : Purpose) (q : Pos) : (s.register p q).book = s.book := by
  unfold State.register
  split <;> rfl

/-- R29: following the freeze registration freezes some orders and changes nothing else of the book. -/
theorem State.book_followFreeze (fuel : Nat) (s : State) :
    ∃ g, FreezesSome g ∧ (State.followFreeze fuel s).book = { s.book with orders := s.book.orders.map g } := by
  have unchanged : ({ s.book with orders := s.book.orders.map id } : OrderBook) = s.book := by rw [List.map_id]
  have leave : FreezesSome id := fun _ => .inl rfl
  induction fuel generalizing s with
  | zero => exact ⟨id, leave, unchanged.symm⟩
  | succ fuel ih =>
    simp only [State.followFreeze]
    split
    · exact ⟨id, leave, unchanged.symm⟩
    · next o _ =>
      split_ifs
      · obtain ⟨g, hg, hbook⟩ := ih ((s.withdraw .freeze).freezeOrder o) (by rw [List.map_id])
        refine ⟨g ∘ (fun x => if x.spec.id = o.spec.id then x.freeze else x), hg.comp ?_, ?_⟩
        · intro x
          by_cases h : x.spec.id = o.spec.id
          · exact .inr (if_pos h)
          · exact .inl (if_neg h)
        · rw [hbook, State.book_freezeOrder, ← List.map_map]
          rfl
      · exact ⟨id, leave, unchanged.symm⟩
      · exact ⟨id, leave, (book_register _ _ _).trans unchanged.symm⟩

/-! ### Placing (R25, R28) -/

/-- The end before an order where it is unfrozen: the one given for the first, else the one the pass sets for the order before. -/
def endBefore (before : Option Pos) (l l' : List Order) : Nat → Option Pos
  | 0 => before
  | k + 1 =>
    match l[k]?, l'[k]? with
    | some x, some x' => if x.frozen then none else some x'.stop
    | _, _ => none

theorem endBefore_cons (before : Option Pos) (o y : Order) (l l' : List Order) (i : Nat) :
    endBefore before (o :: l) (y :: l') (i + 1) = endBefore (if o.frozen then none else some y.stop) l l' i := by
  cases i <;> rfl

theorem State.placeAll_frozen {s : State} {bad : List (Int × Int)} {before : Option Pos} {o : Order} {l l' : List Order}
    (ho : o.frozen = true) (h : s.placeAll bad before (o :: l) = some l') : ∃ m, s.placeAll bad none l = some m ∧ l' = o :: m := by
  rw [State.placeAll, if_pos ho] at h
  obtain ⟨m, hm, e⟩ := Option.map_eq_some_iff.mp h
  exact ⟨m, hm, e.symm⟩

theorem State.placeAll_unfrozen {s : State} {bad : List (Int × Int)} {before : Option Pos} {o : Order} {l l' : List Order}
    (ho : ¬o.frozen = true) (h : s.placeAll bad before (o :: l) = some l') :
    ∃ p m, s.placeAll bad (some p) l = some m ∧
      l' = { o with start := if o.linked then before.getD o.start else o.start, stop := p } :: m := by
  rw [State.placeAll, if_neg ho] at h
  dsimp only at h
  split at h
  · cases h
  · next p _ =>
    obtain ⟨m, hm, e⟩ := Option.map_eq_some_iff.mp h
    exact ⟨p, m, hm, e.symm⟩

/-- R25: where a pass puts an order. -/
theorem State.placeAll_get {s : State} {bad : List (Int × Int)} {before : Option Pos} {l l' : List Order}
    (h : s.placeAll bad before l = some l') {i : Nat} {o : Order} (hi : l[i]? = some o) :
    ∃ y, l'[i]? = some y ∧ (o.frozen = true → y = o) ∧
      (o.frozen = false →
        y = { o with start := if o.linked then (endBefore before l l' i).getD o.start else o.start, stop := y.stop }) := by
  induction l generalizing before l' i with
  | nil => simp at hi
  | cons x l ih =>
    by_cases hx : x.frozen = true
    · obtain ⟨m, hm, rfl⟩ := State.placeAll_frozen hx h
      cases i with
      | zero =>
        cases hi
        exact ⟨o, rfl, fun _ => rfl, fun hf => by rw [hx] at hf; cases hf⟩
      | succ k =>
        rw [endBefore_cons, if_pos hx]
        exact ih hm hi
    · obtain ⟨p, m, hm, rfl⟩ := State.placeAll_unfrozen hx h
      cases i with
      | zero =>
        cases hi
        exact ⟨_, rfl, fun hf => absurd hf hx, fun _ => rfl⟩
      | succ k =>
        rw [endBefore_cons, if_neg hx]
        exact ih hm hi

/-- What a placement pass can do to an order: move and freeze it; a frozen end stays where it is. -/
structure Order.Replaced (o y : Order) : Prop where
  kept : y = { o with start := y.start, stop := y.stop, state := y.state, frozen := y.frozen }
  frozen : o.frozen = true → y.start = o.start ∧ y.stop = o.stop ∧ y.frozen = true
  placed : o.frozen = false → o.state = .placed → y.state = if y.frozen then .frozen else .placed

theorem Order.Replaced.refl (o : Order) : o.Replaced o :=
  ⟨rfl, fun h => ⟨rfl, rfl, h⟩, fun h hs => by rw [h, hs]; rfl⟩

theorem Order.Replaced.move (o : Order) (start stop : Pos) (h : ¬o.frozen = true) : o.Replaced { o with start := start, stop := stop } :=
  ⟨rfl, fun hf => absurd hf h, fun hf hs => by rw [hf, hs]; rfl⟩

theorem Order.Replaced.then_freeze {o y : Order} (h : o.Replaced y) {g : Order → Order} (hg : FreezesSome g) : o.Replaced (g y) := by
  rcases hg y with e | e
  · rw [e]
    exact h
  · rw [e]
    refine ⟨?_, fun hf => ?_, fun hf hs => ?_⟩
    · have kept := h.kept
      rw [kept]
      rfl
    · obtain ⟨hstart, hstop, -⟩ := h.frozen hf
      exact ⟨hstart, hstop, rfl⟩
    · have placed := h.placed hf hs
      show (if y.state = .placed then OrderState.frozen else y.state) = .frozen
      rw [placed]
      cases y.frozen <;> rfl

theorem State.replaced_placeAll {s : State} {bad : List (Int × Int)} {before : Option Pos} {l l' : List Order}
    (h : s.placeAll bad before l = some l') : List.Forall₂ Order.Replaced l l' := by
  induction l generalizing before l' with
  | nil => cases h; exact .nil
  | cons x l ih =>
    by_cases hx : x.frozen = true
    · obtain ⟨m, hm, rfl⟩ := State.placeAll_frozen hx h
      exact .cons (.refl x) (ih hm)
    · obtain ⟨p, m, hm, rfl⟩ := State.placeAll_unfrozen hx h
      exact .cons (.move x _ _ hx) (ih hm)

/-! ### A placement pass (R28) -/

/-- R28: what a placement pass leaves of the book: the orders placed, where it is applied, some of them then frozen. -/
theorem State.book_placementPass (s : State) :
    ∃ l g, FreezesSome g ∧ (s.placeAll s.badBoard none s.book.orders = some l ∨
        s.placeAll s.badBoard none s.book.orders = none ∧ l = s.book.orders) ∧
      s.placementPass.book = { s.book with
        orders := l.map g, notApplied := (s.placeAll s.badBoard none s.book.orders).isNone } := by
  unfold State.placementPass
  cases hl : s.placeAll s.badBoard none s.book.orders with
  | none =>
    obtain ⟨g, hg, hbook⟩ := State.book_followFreeze (s.book.orders.length + 1) { s with book := { s.book with notApplied := true } }
    exact ⟨s.book.orders, g, hg, .inr ⟨rfl, rfl⟩, hbook⟩
  | some l =>
    have settle (t : State) (ht : t.book = { s.book with orders := l, notApplied := false }) :
        ∃ g, FreezesSome g ∧ t.updateFreeze.book = { s.book with orders := l.map g, notApplied := false } := by
      obtain ⟨g, hg, hbook⟩ := State.book_followFreeze (t.book.orders.length + 1) t
      exact ⟨g, hg, by rw [State.updateFreeze, hbook, ht]⟩
    obtain ⟨g, hg, hbook⟩ := settle (if placement l = placement s.book.orders then
      { s with book := { s.book with orders := l, notApplied := false } }
      else State.post { s with book := { s.book with orders := l, notApplied := false } } .orderChange) (by split <;> rfl)
    exact ⟨l, g, hg, .inl rfl, hbook⟩

theorem State.replaced_placementPass (s : State) : List.Forall₂ Order.Replaced s.book.orders s.placementPass.book.orders := by
  obtain ⟨l, g, hg, hl, hbook⟩ := s.book_placementPass
  have placed : List.Forall₂ Order.Replaced s.book.orders l := by
    rcases hl with hl | ⟨-, rfl⟩
    · exact State.replaced_placeAll hl
    · exact List.forall₂_same.mpr fun o _ => .refl o
  rw [hbook]
  exact List.forall₂_map_right_iff.mpr (placed.imp fun _ _ h => h.then_freeze hg)

theorem forall₂_getElem? {α β : Type} {R : α → β → Prop} {l : List α} {l' : List β} (h : List.Forall₂ R l l') {i : Nat} {x : α}
    (hx : l[i]? = some x) : ∃ y, l'[i]? = some y ∧ R x y := by
  induction h generalizing i with
  | nil => simp at hx
  | cons hR _ ih =>
    cases i with
    | zero => cases hx; exact ⟨_, rfl, hR⟩
    | succ i => exact ih hx

/-- Settles O19. -/
theorem planRefreshPlacesOrders : Obligations.PlanRefreshPlacesOrders := by
  refine ⟨fun s => rfl, fun s => ?_, fun s i o hi hf => ?_, fun s i o y happlied hi hf hy => ?_⟩
  · exact eq_patch_of_erase (F := [.book, .regs, .notices, .inbox]) (erase_placementPass s (by decide))
  · obtain ⟨y, hy, replaced⟩ := forall₂_getElem? s.replaced_placementPass hi
    obtain ⟨hstart, hstop, hfrozen⟩ := replaced.frozen hf
    exact ⟨y, hy, hstart, hstop, hfrozen, by rw [replaced.kept]⟩
  · obtain ⟨l, g, hg, hl, hbook⟩ := s.book_placementPass
    have keeps (z : Order) : (g z).start = z.start ∧ (g z).stop = z.stop := by
      rcases hg z with e | e <;> rw [e] <;> exact ⟨rfl, rfl⟩
    have applied : s.placeAll s.badBoard none s.book.orders = some l := by
      refine hl.resolve_right fun hn => ?_
      rw [hbook, hn.1] at happlied
      cases happlied
    obtain ⟨z, hz, -, unfrozen⟩ := State.placeAll_get applied hi
    rw [hbook, List.getElem?_map, hz, Option.map_some] at hy
    cases hy
    have start : z.start = if o.linked then (endBefore none s.book.orders l i).getD o.start else o.start := by
      have := congrArg Order.start (unfrozen hf)
      exact this
    rw [(keeps z).1, start]
    refine ⟨fun h => ?_, fun hlinked k x x' hik hx hx' => ?_⟩
    · rcases h with h | rfl
      · rw [if_neg (by rw [h]; nofun)]
      · exact ite_self _
    · subst hik
      rw [if_pos hlinked]
      rw [hbook, List.getElem?_map] at hx'
      obtain ⟨w, hw, rfl⟩ := Option.map_eq_some_iff.mp hx'
      rw [(keeps w).2]
      have hb : endBefore none s.book.orders l (k + 1) = if x.frozen then none else some w.stop := by
        simp only [endBefore, hx, hw]
      rw [hb]
      split <;> rfl

/-! ### Planned ends (R26 to R28) -/

theorem findCut_ge {p : Nat} {a0 : Int} {bad : List (Int × Int)} (fuel j need : Nat) {k : Nat}
    (h : findCut p a0 bad fuel j need = some k) : j ≤ k := by
  induction fuel generalizing j need with
  | zero =>
    cases need with
    | zero => cases h; exact le_rfl
    | succ need => cases h
  | succ fuel ih =>
    cases need with
    | zero => cases h; exact le_rfl
    | succ need =>
      simp only [findCut] at h
      split at h
      · cases h
      · exact (Nat.le_succ j).trans (ih _ _ h)

theorem gridCut_mono (p : Nat) {i j : Nat} (h : i ≤ j) : gridCut p i ≤ gridCut p j :=
  Nat.div_le_div_right (Nat.mul_le_mul_right p h)

/-- R27: the cut taken for a distance lies at least that far. -/
theorem le_gridCut_cutAtLeast {p : Nat} (hp : 0 < p) (d : Int) : d ≤ gridCut p (cutAtLeast p d) := by
  have enough : d.toNat * 10000 ≤ cutAtLeast p d * p := by
    have := Nat.lt_div_mul_add (a := d.toNat * 10000 + p - 1) hp
    rw [cutAtLeast]
    omega
  have := (Nat.le_div_iff_mul_le (by decide : 0 < 10000)).mpr enough
  rw [gridCut]
  omega

/-- A position `d` counts beyond another lies as much further ahead, within reach. -/
theorem ahead_plus {e p : Pos} {d : Nat} (h : e.ahead p + d < 2147483648) : e.ahead (p.plus d) = e.ahead p + d := by
  have he := e.isLt
  have hp := p.isLt
  simp only [Pos.ahead, Pos.plus, BitVec.toInt_eq_toNat_cond, BitVec.toNat_sub, BitVec.toNat_add, BitVec.toNat_ofNat] at *
  omega

/-- R26 to R28: a planned end is a cut of the grid, at or beyond the freeze horizon and within reach. -/
theorem State.planEnd_spec {s : State} {bad : List (Int × Int)} {o : Order} {p : Pos} (hP : 0 < s.productOf o.spec)
    (h : s.planEnd bad o = some p) :
    ∃ j, o.gridPassed ≤ j ∧ p = o.start.plus (gridCut (s.productOf o.spec) j) ∧
      (s.dFreeze : Int) ≤ s.tracker.pos.ahead o.start + gridCut (s.productOf o.spec) j ∧
      s.tracker.pos.ahead o.start + gridCut (s.productOf o.spec) j < 2130706432 := by
  simp only [State.planEnd] at h
  split at h
  · cases h
  · next j hj =>
    have passed := findCut_ge _ _ _ hj
    split_ifs at h with hshort hreach
    · cases h
      have far := le_gridCut_cutAtLeast hP (s.dFreeze - s.tracker.pos.ahead o.start)
      refine ⟨_, passed.trans ?_, rfl, by omega, Int.not_le.mp ‹_›⟩
      by_contra hlt
      have := gridCut_mono (s.productOf o.spec) (Nat.le_of_not_le hlt)
      omega
    · cases h
      exact ⟨j, passed, rfl, Int.not_lt.mp hshort, Int.not_le.mp ‹_›⟩

/-- Settles O20. -/
theorem plannedEndIsGridCutPastFreeze : Obligations.PlannedEndIsGridCutPastFreeze := by
  intro s bad o p hP h
  obtain ⟨j, passed, rfl, horizon, reach⟩ := State.planEnd_spec hP h
  rw [ahead_plus (by omega)]
  exact ⟨⟨j, passed, rfl⟩, horizon, reach⟩

/-! ### The orders a pass finds again -/

theorem forall₂_find? {α : Type} {R : α → α → Prop} {p : α → Bool} {l l' : List α} (h : List.Forall₂ R l l')
    (hp : ∀ x y, R x y → p y = p x) :
    (l.find? p = none → l'.find? p = none) ∧ ∀ x, l.find? p = some x → ∃ y, l'.find? p = some y ∧ R x y := by
  induction h with
  | nil => exact ⟨fun _ => rfl, nofun⟩
  | @cons x y l l' hR _ ih =>
    rw [List.find?_cons, List.find?_cons, hp x y hR]
    cases p x with
    | true => exact ⟨nofun, fun z hz => ⟨y, rfl, by cases hz; exact hR⟩⟩
    | false => exact ih

theorem State.order?_placementPass (s : State) (id : Nat) :
    (s.order? id = none → s.placementPass.order? id = none) ∧
      ∀ o, s.order? id = some o → ∃ y, s.placementPass.order? id = some y ∧ o.Replaced y :=
  forall₂_find? s.replaced_placementPass fun o y h => by rw [h.kept]

theorem State.id_of_order? {s : State} {id : Nat} {o : Order} (h : s.order? id = some o) : o.spec.id = id := by
  have := List.find?_some h
  simpa using this

/-- What a pass leaves of the rest of the book. -/
theorem State.completed_placementPass (s : State) :
    s.placementPass.book.completed = s.book.completed ∧ s.placementPass.book.naming = s.book.naming := by
  obtain ⟨l, g, -, -, hbook⟩ := s.book_placementPass
  rw [hbook]
  exact ⟨rfl, rfl⟩

theorem State.order?_updateOrder {s : State} {id k : Nat} {f : Order → Order} (hf : ∀ o, (f o).spec.id = o.spec.id) :
    (s.updateOrder k f).order? id = (s.order? id).map (fun o => if o.spec.id = k then f o else o) := by
  unfold State.order? State.updateOrder
  rw [List.find?_map]
  refine congrArg (Option.map _) (congrArg (List.find? · _) (funext fun o => ?_))
  simp only [Function.comp_apply]
  split
  · rw [hf]
  · rfl

/-! ### CHANGE_COUNT and CANCEL_ORDER (R37, R38) -/

/-- R37: the fields of the reply of CHANGE_COUNT. -/
def placeFields : Option Order → List Byte
  | some x => x.place
  | none => []

theorem State.reqChangeCount_of {s : State} {id : Nat} {o : Order} (h : s.order? id = some o) (n a : Nat) :
    s.reqChangeCount id n a =
      if ¬(1 ≤ n ∧ n ≤ 99999 ∧ a ≤ 500 ∧ (n + a) * (s.productOf o.spec / 10000 + 1) < 1073741824) then (s, .just .badValue)
      else if o.frozen then (s, .just .tooLate)
      else if n + a < o.knifeGood then (s, .just .badValue)
      else
        let t := (s.updateOrder id (fun x => { x with spec := { x.spec with ordered := n, allowance := a } })).placementPass
        (t, .okWith (placeFields (t.order? id))) := by
  simp only [State.reqChangeCount, h]
  by_cases hr : n < 1 ∨ 99999 < n ∨ 500 < a
  · rw [if_pos hr, if_pos (by omega)]
  · rw [if_neg hr]
    by_cases hs : 1073741824 ≤ (n + a) * (s.productOf o.spec / 10000 + 1)
    · rw [if_pos hs, if_pos (fun fits => Nat.not_lt.mpr hs fits.2.2.2)]
    · have fits : 1 ≤ n ∧ n ≤ 99999 ∧ a ≤ 500 ∧ (n + a) * (s.productOf o.spec / 10000 + 1) < 1073741824 :=
        ⟨by omega, by omega, by omega, Nat.lt_of_not_le hs⟩
      rw [if_neg hs, if_neg (not_not.mpr fits)]
      rfl

/-- R38: the state of a cancel before its placement pass. -/
def State.cancelled (s : State) (o : Order) (next : Option Order) : State :=
  State.post (match next with
    | some y => State.updateOrder { s with book := s.book.complete { o with state := .cancelled } } y.spec.id
      (fun z => { z with start := o.start })
    | none => { s with book := s.book.complete { o with state := .cancelled } }) .orderChange

theorem State.reqCancelOrder_of {s : State} {id : Nat} {o : Order} (h : s.order? id = some o) :
    s.reqCancelOrder id =
      if s.startFrozen o then (s, .just .tooLate) else ((s.cancelled o (s.linkedNext id)).placementPass, .just .ok) := by
  unfold State.reqCancelOrder
  rw [h]
  cases s.linkedNext id <;> rfl

theorem naming_setNaming (b : OrderBook) (code : Fin 64) (f : Nat → Nat) :
    tget (b.setNaming code.val f).naming code = f (tget b.naming code) := by
  unfold OrderBook.setNaming
  rw [dif_pos code.isLt]
  exact tget_tset_same _ _ _

theorem State.cancelled_book (s : State) (o : Order) (next : Option Order) :
    (s.cancelled o next).book.completed = (s.book.complete { o with state := .cancelled }).completed ∧
      (s.cancelled o next).book.naming = (s.book.complete { o with state := .cancelled }).naming ∧
      (s.cancelled o next).order? o.spec.id = none := by
  have gone : State.order? { s with book := s.book.complete { o with state := .cancelled } } o.spec.id = none := by
    simp [State.order?, OrderBook.complete]
  cases next with
  | none => exact ⟨rfl, rfl, gone⟩
  | some y =>
    refine ⟨rfl, rfl, ?_⟩
    refine (State.order?_updateOrder (s := { s with book := s.book.complete { o with state := .cancelled } })
      (f := fun z => { z with start := o.start }) (fun _ => rfl)).trans ?_
    rw [gone]
    rfl

/-- Settles O24. -/
theorem changeAndCancelReplan : Obligations.ChangeAndCancelReplan := by
  intro tag id s
  let h := s.heard 0x1B tag
  let h' := s.heard 0x1C tag
  refine ⟨fun hnone => ⟨fun n a => ?_, ?_⟩, fun o ho => ⟨fun n a => ?_, fun hstart => ?_, fun hstart => ?_⟩⟩
  · refine run_just (owner := fun t => t.reqChangeCount id n a) (by decide) ?_ rfl
    unfold State.reqChangeCount
    rw [show h.order? id = none from hnone]
    rfl
  · refine run_just (owner := fun t => t.reqCancelOrder id) (by decide) ?_ rfl
    unfold State.reqCancelOrder
    rw [show h'.order? id = none from hnone]
    rfl
  · intro fits reply
    have owner := State.reqChangeCount_of (s := h) (o := o) ho n a
    have refuses {st : Status} (hst : h.reqChangeCount id n a = (h, .just st)) :
        exec (.changeCount tag id n a) s = .next (reply st) := run_just (owner := fun t => t.reqChangeCount id n a) (by decide) hst rfl
    refine ⟨fun hf => refuses (owner.trans (if_pos hf)), fun hf hz => refuses (owner.trans ((if_neg (not_not.mpr hf)).trans (if_pos hz))),
      fun hf hz hk => ?_, fun hf hz hk => ?_⟩
    · exact refuses (owner.trans ((if_neg (not_not.mpr hf)).trans ((if_neg (by rw [hz]; nofun)).trans (if_pos hk))))
    · replace owner := owner.trans ((if_neg (not_not.mpr hf)).trans ((if_neg (by rw [hz]; nofun)).trans (if_neg (Nat.not_lt.mpr hk))))
      obtain ⟨x, hx, replaced⟩ := (State.order?_placementPass
        (h.updateOrder id (fun y => { y with spec := { y.spec with ordered := n, allowance := a } })) id).2
        { o with spec := { o.spec with ordered := n, allowance := a } }
        (by
          refine (State.order?_updateOrder (s := h) (f := fun y => { y with spec := { y.spec with ordered := n, allowance := a } })
            (fun _ => rfl)).trans ?_
          rw [show h.order? id = some o from ho, Option.map_some, if_pos (State.id_of_order? ho)])
      refine ⟨_, x, rfl, ?_, hx, ?_, ?_⟩
      · dsimp only at owner
        rw [hx] at owner
        exact run_okWith_finish (owner := fun t => t.reqChangeCount id n a) (by decide) owner
      · rw [replaced.kept]
      · rw [replaced.kept]
  · have owner := State.reqCancelOrder_of (s := h') (o := o) ho
    exact run_just (owner := fun t => t.reqCancelOrder id) (by decide) (owner.trans (if_pos hstart)) rfl
  · have owner := (State.reqCancelOrder_of (s := h') (o := o) ho).trans (if_neg (by
      rw [show h'.startFrozen o = false from hstart]
      nofun))
    have result : (h'.reqCancelOrder id).1 = (h'.cancelled o (s.linkedNext id)).placementPass := congrArg Prod.fst owner
    obtain ⟨completed, naming, gone⟩ := h'.cancelled_book o (s.linkedNext id)
    obtain ⟨hcompleted, hnaming⟩ := State.completed_placementPass (h'.cancelled o (s.linkedNext id))
    have hid := State.id_of_order? ho
    refine ⟨(h'.reqCancelOrder id).1, ?_, ?_, ?_, ?_, ?_, fun c hc => ?_⟩
    · rw [owner]
      exact run_just_finish (owner := fun t => t.reqCancelOrder id) (by decide) owner
    · rw [result]
      dsimp only
      cases s.linkedNext id <;> rfl
    · exact eq_patch_of_erase (F := [.book, .regs, .notices, .inbox]) (erase_reqCancelOrder _ _ (by decide))
    · rw [result]
      exact (State.order?_placementPass _ id).1 (hid ▸ gone)
    · rw [result, hcompleted, completed]
      exact List.getLast?_concat
    · rw [result, hnaming, naming]
      show tget (OrderBook.setNaming _ o.spec.grade _).naming c = _
      rw [hc]
      exact naming_setNaming _ _ _

/-! ### ADD_ORDER (R24, R25) -/

/-- The events that are no crossing. -/
def Ev.Stays (e : Ev) : Prop := ∀ p, e.notFor p = true

theorem Ev.Stays.withdraw {e : Ev} (h : e.Stays) {s : State} (he : e ∈ s.inbox) (p : Purpose) : e ∈ (s.withdraw p).inbox :=
  List.mem_filter.mpr ⟨he, h p⟩

theorem Ev.Stays.register {e : Ev} (h : e.Stays) {s : State} (he : e ∈ s.inbox) (p : Purpose) (q : Pos) :
    e ∈ (s.register p q).inbox := by
  unfold State.register
  split
  · exact List.mem_append_left _ (h.withdraw he p)
  · exact h.withdraw he p

theorem mem_inbox_freezeOrder {e : Ev} {s : State} (he : e ∈ s.inbox) (o : Order) : e ∈ (s.freezeOrder o).inbox := by
  simp only [State.freezeOrder]
  split
  · refine List.mem_append_left _ ?_
    unfold State.boundaryActions
    split
    · exact List.mem_append_left _ (List.mem_append_left _ (List.mem_append_left _ he))
    · exact List.mem_append_left _ he
  · exact List.mem_append_left _ (List.mem_append_left _ he)

theorem Ev.Stays.followFreeze {e : Ev} (h : e.Stays) (fuel : Nat) {s : State} (he : e ∈ s.inbox) :
    e ∈ (State.followFreeze fuel s).inbox := by
  induction fuel generalizing s with
  | zero => exact he
  | succ fuel ih =>
    simp only [State.followFreeze]
    split
    · exact h.withdraw he _
    · split_ifs
      · exact ih (mem_inbox_freezeOrder (h.withdraw he _) _)
      · exact he
      · exact h.register he _ _

/-- R28: what waits and is no crossing still waits after a placement pass. -/
theorem Ev.Stays.placementPass {e : Ev} (h : e.Stays) {s : State} (he : e ∈ s.inbox) : e ∈ s.placementPass.inbox := by
  simp only [State.placementPass]
  split
  · exact h.followFreeze _ he
  · refine h.followFreeze _ ?_
    split
    · exact he
    · exact List.mem_append_left _ he

/-- R24: the state of an acceptance before its placement pass. -/
def State.entered (s : State) (o : Order) : State :=
  let s1 := { s with book := { s.book.setNaming o.spec.grade (· + 1) with
    orders := (s.book.setNaming o.spec.grade (· + 1)).orders ++ [o] } }
  ((if o.linked then s1 else s1.headActions o s.book.orders.getLast?).post .accepted).post .orderChange

theorem State.acceptOrder_eq (s : State) (o : Order) : s.acceptOrder o = (s.entered o).placementPass := rfl

theorem State.orders_entered (s : State) (o : Order) : (s.entered o).book.orders = s.book.orders ++ [o] := by
  have entered : (s.entered o).book = { s.book.setNaming o.spec.grade (· + 1) with
      orders := (s.book.setNaming o.spec.grade (· + 1)).orders ++ [o] } := by
    simp only [State.entered]
    split
    · rfl
    · exact book_of_erase (F := [.inbox, .notices]) (erase_headActions _ _ _ (by decide)) (by decide)
  rw [entered]
  show (s.book.setNaming o.spec.grade (· + 1)).orders ++ [o] = _
  rw [(State.BookRoom.orders_setNaming s.book o.spec.grade (· + 1)).1]

theorem State.accepted_mem_entered (s : State) (o : Order) : Ev.accepted ∈ (s.entered o).inbox :=
  List.mem_append_left _ (List.mem_append_right _ (.head _))

theorem forall₂_concat_left {α : Type} {R : α → α → Prop} {l m : List α} {x : α} (h : List.Forall₂ R (l ++ [x]) m) :
    ∃ l' y, m = l' ++ [y] ∧ List.Forall₂ R l l' ∧ R x y := by
  induction l generalizing m with
  | nil =>
    obtain ⟨y, m', hxy, hm', rfl⟩ := List.forall₂_cons_left_iff.mp h
    cases hm'
    exact ⟨[], y, rfl, .nil, hxy⟩
  | cons z l ih =>
    obtain ⟨y, m', hzy, hm', rfl⟩ := List.forall₂_cons_left_iff.mp h
    obtain ⟨l', w, rfl, hl, hw⟩ := ih hm'
    exact ⟨y :: l', w, rfl, .cons hzy hl, hw⟩

/-- R24, R25: the order entered is the last of the book after the pass of its acceptance, which may move it and freeze it. -/
theorem State.acceptOrder_last {s : State} {o : Order} (ho : s.order? o.spec.id = none) :
    ∃ x, (s.acceptOrder o).order? o.spec.id = some x ∧ (s.acceptOrder o).book.orders.getLast? = some x ∧
      (s.acceptOrder o).book.orders.length = s.book.orders.length + 1 ∧ o.Replaced x := by
  obtain ⟨l, x, hbook, hl, hx⟩ := forall₂_concat_left (s.orders_entered o ▸ (s.entered o).replaced_placementPass)
  rw [← s.acceptOrder_eq] at hbook
  have before : l.find? (fun y => y.spec.id = o.spec.id) = none := (forall₂_find? hl fun a b h => by rw [h.kept]).1 ho
  have hid : x.spec = o.spec := by rw [hx.kept]
  refine ⟨x, ?_, ?_, ?_, hx⟩
  · rw [State.order?, hbook, List.find?_append, before]
    simp [hid]
  · rw [hbook, List.getLast?_concat]
  · rw [hbook, List.length_append, ← hl.length_eq]
    rfl

/-- Settles O23: each check of ADD_ORDER in its order (R24), then the order entered and the placement pass of its acceptance. -/
theorem addOrderEntersOrRefuses : Obligations.AddOrderEntersOrRefuses := by
  unfold Obligations.AddOrderEntersOrRefuses
  intro tag o s
  have owner := State.reqAddOrder.eq_def (s.heard 0x1A tag) o
  have refuses {st : Status} (hst : (s.heard 0x1A tag).reqAddOrder o = (s.heard 0x1A tag, .just st)) :
      exec (.addOrder tag o) s = .next ((s.heard 0x1A tag).answered 0x1A tag st []).refreshLimits :=
    run_just (owner := fun t => t.reqAddOrder o) (by decide) hst rfl
  refine ⟨fun hm => refuses (owner.trans (if_pos hm)), fun hm hbad => ?_, fun hm hranges hsheets => ?_⟩
  · replace owner := owner.trans (if_neg hm)
    rcases Bool.eq_false_or_eq_true (s.orderRanges o) with hranges | hranges
    · replace owner := owner.trans (if_neg (by rw [show (s.heard 0x1A tag).orderRanges o = true from hranges]; nofun))
      have hsheets := hbad.resolve_left (by rw [hranges]; nofun)
      exact refuses (owner.trans (if_pos (by rw [show (s.heard 0x1A tag).orderSheets o = false from hsheets]; rfl)))
    · exact refuses (owner.trans (if_pos (by rw [show (s.heard 0x1A tag).orderRanges o = false from hranges]; rfl)))
  replace owner := ((owner.trans (if_neg hm)).trans
    (if_neg (by rw [show (s.heard 0x1A tag).orderRanges o = true from hranges]; nofun))).trans
    (if_neg (by rw [show (s.heard 0x1A tag).orderSheets o = true from hsheets]; nofun))
  refine ⟨fun hg => refuses (owner.trans (if_pos (by rw [show (s.heard 0x1A tag).grade? o.grade = none from hg]; rfl))),
    fun hg => ?_⟩
  replace owner := owner.trans (if_neg (by
    rw [show ((s.heard 0x1A tag).grade? o.grade).isNone = false from Option.isNone_eq_false_iff.mpr hg]
    nofun))
  refine ⟨fun hdup => refuses (owner.trans (if_pos hdup)), fun hid hdone => ?_⟩
  replace owner := owner.trans (if_neg (by
    rw [show (s.heard 0x1A tag).order? o.id = none from hid, show (s.heard 0x1A tag).completed? o.id = none from hdone]
    nofun))
  refine ⟨fun hroom => refuses (owner.trans (if_pos hroom)), fun hroom => ?_⟩
  replace owner := owner.trans (if_neg (Nat.not_le.mpr hroom))
  refine ⟨fun hend => ?_, fun p hend => ⟨fun hreach => ?_, fun hreach => ?_⟩⟩
  · have hend' : (s.heard 0x1A tag).planEnd (s.heard 0x1A tag).badBoard ((s.heard 0x1A tag).freshOrder o) = none := hend
    dsimp only at owner
    rw [hend'] at owner
    exact refuses owner
  · have hend' : (s.heard 0x1A tag).planEnd (s.heard 0x1A tag).badBoard ((s.heard 0x1A tag).freshOrder o) = some p := hend
    dsimp only at owner
    rw [hend'] at owner
    exact refuses (owner.trans (if_pos hreach))
  · have hend' : (s.heard 0x1A tag).planEnd (s.heard 0x1A tag).badBoard ((s.heard 0x1A tag).freshOrder o) = some p := hend
    dsimp only at owner
    rw [hend'] at owner
    dsimp only at owner
    have near : ¬Config.acceptReach ≤ (s.heard 0x1A tag).tracker.pos.ahead p := not_le.mpr hreach
    rw [if_neg near] at owner
    obtain ⟨x, hx, hlast, hlength, replaced⟩ :=
      State.acceptOrder_last (s := s.heard 0x1A tag) (o := { s.freshOrder o with stop := p }) hid
    refine ⟨_, x, rfl, ?_, ?_, hx, hlast, hlength, ?_, ?_, replaced.placed rfl rfl, rfl⟩
    · have hx' : ((s.heard 0x1A tag).acceptOrder { (s.heard 0x1A tag).freshOrder o with stop := p }).order? o.id = some x := hx
      dsimp only at hx'
      rw [hx'] at owner
      have reply : u32 o.id ++ u8 x.state.code ++ encPos x.start ++ encPos x.stop ++ encBool x.frozen =
          u32 o.id ++ u8 x.state.code ++ x.place := by
        simp only [Order.place, List.append_assoc]
      rw [reply]
      exact run_okWith_finish (owner := fun t => t.reqAddOrder o) (by decide) owner
    · exact eq_patch_of_erase (F := [.book, .regs, .notices, .inbox]) (erase_acceptOrder _ _ (by decide))
    · exact Ev.Stays.placementPass (fun _ => rfl) (State.accepted_mem_entered _ _)
    · exact replaced.kept

end Sys2Proof.Machine

/-! ## The Glue Units: windows, moves, and the statements about target gaps and the ends of a move -/

namespace Sys2Proof.Machine

/-! ### What an operation at a unit leaves of the Glue Units -/

/-- The parts no glue unit lies in. -/
def glueless : List Part :=
  [.pending, .inbox, .choice, .tracker, .regs, .map, .book, .cutoff, .slitter, .stacker, .stands, .splice, .scanner, .heat, .gov,
    .cfg, .limits, .link, .notices]

theorem State.glue_of_erase {s t : State} (h : t.erase glueless = s.erase glueless) : t.glue = s.glue := by
  simpa [State.erase, glueless] using congrArg State.glue h

/-- R163: a window found is written into its own unit alone. -/
theorem State.glue_findUnitAt (e : Pos) (u : GlueUnit) (s : State) :
    (State.findUnitAt e u s).glue = (s.setUnit u { s.unit u with window := s.unitInWindow u }).glue := by
  simp only [State.findUnitAt]
  split_ifs with hw
  · rw [← hw]
    exact congrArg (fun x => ({ s.glue with units := x } : Glue)) (tset_tget s.glue.units u).symm
  · exact State.glue_of_erase (by simp [glueless])
  · exact State.glue_of_erase (by simp [glueless])

/-- R163, R169: a change of a unit stays within that unit: the change asked for, and the window it then finds. -/
theorem State.glue_updUnit (s : State) (u : GlueUnit) (f : GlueRec → GlueRec) :
    ∃ w, (s.updUnit u f).glue = (s.setUnit u { f (s.unit u) with window := w }).glue := by
  simp only [State.updUnit]
  split
  · exact ⟨(f (s.unit u)).window, rfl⟩
  · generalize ht : (s.setUnit u (f (s.unit u))).mark srcGlue = t
    have marked : t.glue = (s.setUnit u (f (s.unit u))).glue := ht ▸ State.glue_of_erase (by simp [glueless])
    have unit : t.unit u = f (s.unit u) := by
      rw [State.unit, marked]
      exact s.unit_setUnit u _
    refine ⟨t.unitInWindow u, ?_⟩
    rw [State.findUnit, State.glue_findUnitAt, unit]
    simp only [State.setUnit, marked]
    congr 1
    apply table_ext
    intro k
    by_cases hk : k = u
    · rw [hk, tget_tset_same, tget_tset_same]
    · rw [tget_tset_other _ _ hk, tget_tset_other _ _ hk, tget_tset_other _ _ hk]

theorem State.unit_updUnit (s : State) (u : GlueUnit) (f : GlueRec → GlueRec) :
    (s.updUnit u f).unit u = { f (s.unit u) with window := ((s.updUnit u f).unit u).window } := by
  obtain ⟨w, hw⟩ := s.glue_updUnit u f
  have unit : (s.updUnit u f).unit u = { f (s.unit u) with window := w } := by
    rw [State.unit, hw]
    exact s.unit_setUnit u _
  rw [unit]

theorem State.unit_updUnit_other (s : State) {u k : GlueUnit} (f : GlueRec → GlueRec) (h : k ≠ u) :
    (s.updUnit u f).unit k = s.unit k := by
  obtain ⟨w, hw⟩ := s.glue_updUnit u f
  rw [State.unit, hw]
  exact s.unit_setUnit_other _ h

theorem State.motion_updUnit (s : State) (u : GlueUnit) (f : GlueRec → GlueRec) :
    (s.updUnit u f).glue = { s.glue with units := (s.updUnit u f).glue.units } := by
  obtain ⟨w, hw⟩ := s.glue_updUnit u f
  rw [hw]
  rfl

/-! ### Target gaps (R158, R159) -/

/-- R158: in the segment of breakpoints a speed lies in, the gap is their interpolation. -/
theorem gapAt_between {g : GlueRecipe} (hg : ∀ i j : Fin 4, i < j → (tget g i).speed < (tget g j).speed) (i : Fin 3) {v : Nat}
    (lo : (tget g i.castSucc).speed ≤ v) (hi : v < (tget g i.succ).speed) :
    gapAt g v = between (tget g i.castSucc) (tget g i.succ) v := by
  have h01 := hg 0 1 (by decide)
  have h12 := hg 1 2 (by decide)
  have h23 := hg 2 3 (by decide)
  unfold gapAt
  match i with
  | 0 =>
    replace lo : (tget g 0).speed ≤ v := lo
    replace hi : v < (tget g 1).speed := hi
    rw [if_neg (by omega), if_neg (by omega), if_neg (by omega), if_neg (by omega)]
    rfl
  | 1 =>
    replace lo : (tget g 1).speed ≤ v := lo
    replace hi : v < (tget g 2).speed := hi
    rw [if_neg (by omega), if_neg (by omega), if_neg (by omega), if_pos lo]
    rfl
  | 2 =>
    replace lo : (tget g 2).speed ≤ v := lo
    replace hi : v < (tget g 3).speed := hi
    rw [if_neg (by omega), if_neg (by omega), if_pos lo]
    rfl

/-- R158: at a breakpoint's own speed the interpolation is its gap. -/
theorem between_self (p q : Breakpoint) : between p q p.speed = p.gap := by
  simp [between]

theorem GlueRec.target_take (r : GlueRec) (t d time : Nat) : (r.take t d time).target = r.target := by
  unfold GlueRec.take
  split
  · rfl
  · split <;> rfl
  · split <;> rfl
  · split <;> rfl
  · rfl

/-- Settles O48: the case split of R158 at the breakpoint speeds, and the target recorded by every unit that computes it. -/
theorem targetGapInterpolates : Obligations.TargetGapInterpolates := by
  unfold Obligations.TargetGapInterpolates
  intro s g hg v clamp
  have target {x : Int} (h : gapAt g v = x) : s.targetGap g = clamp x := by rw [← h]; rfl
  have rises := hg 0 3 (by decide)
  refine ⟨fun hv => target (if_pos hv), fun hv => target ((if_neg (by omega)).trans (if_pos hv)), fun i => ?_, fun u => ⟨fun hu => ?_, ?_⟩⟩
  · intro lo hi hlo hhi
    refine ⟨target (gapAt_between hg i hlo hhi), fun hv => target ?_⟩
    rw [gapAt_between hg i hlo hhi, hv]
    exact between_self _ _
  · rw [State.computeTarget, hu]
  · intro hu hm
    rw [State.computeTarget, hu]
    dsimp only
    rw [if_neg hm, State.unit_updUnit]
    dsimp only
    split
    · rfl
    · exact GlueRec.target_take _ _ _ _

/-! ### The ends of a move (R160, R162, R167) -/

@[simp] theorem glueUnitOfNumber_number (u : GlueUnit) : GlueUnit.ofNumber (GlueUnit.number u) = some u := by
  revert u
  decide

theorem glueUnitOfNumber_of_not {k : Nat} (h : ¬(1 ≤ k ∧ k ≤ 4)) : GlueUnit.ofNumber k = none := dif_neg h

/-- R160, R162: what ARRIVED makes of a moving unit. -/
theorem State.takeArrived_moving {s : State} {u : GlueUnit} (hu : (s.unit u).state = .moving) :
    let applies := (s.unit u).applied = true ∨ (s.gov.mode = .running ∧ s.govCfg.glueLift + 50 ≤ s.tracker.measured)
    (s.takeArrived u).unit u = { s.unit u with
      state := if applies then .applying else .lifted, applied := decide applies, confirmed := true, timer := none,
      window := ((s.takeArrived u).unit u).window } ∧
    (∀ k : GlueUnit, k ≠ u → (s.takeArrived u).unit k = s.unit k) ∧
    (s.takeArrived u).glue = { s.glue with units := (s.takeArrived u).glue.units } := by
  intro applies
  let ends : GlueRec → GlueRec := fun r =>
    { r with state := if r.applied then .applying else .lifted, confirmed := true, timer := none }
  have arrived : s.takeArrived u = State.reapplyTest u (s.updUnit u ends) := if_pos hu
  have here := s.unit_updUnit u ends
  have same : (s.updUnit u ends).erase [.glue, .map, .inbox, .choice, .notices] = s.erase [.glue, .map, .inbox, .choice, .notices] :=
    erase_updUnit _ _ _ (by decide)
  have holds : (s.updUnit u ends).reapplyHolds u =
      (!(s.unit u).applied && decide (s.gov.mode = .running) && decide (s.govCfg.glueLift + 50 ≤ s.tracker.measured)) := by
    rw [State.reapplyHolds, here, gov_of_erase same (by decide), tracker_of_erase same (by decide), State.govCfg,
      cfg_of_erase same (by decide), ← State.govCfg]
    by_cases ha : (s.unit u).applied = true <;> simp [ends, ha]
  rw [arrived, State.reapplyTest, holds]
  by_cases ha : (s.unit u).applied = true
  · rw [if_neg (by simp [ha])]
    have yes : applies := .inl ha
    refine ⟨?_, fun k hk => s.unit_updUnit_other _ hk, s.motion_updUnit u _⟩
    rw [here]
    simp [ends, yes, ha]
  · by_cases hr : s.gov.mode = .running ∧ s.govCfg.glueLift + 50 ≤ s.tracker.measured
    · rw [if_pos (by simp [ha, hr.1, hr.2])]
      have yes : applies := .inr hr
      refine ⟨?_, fun k hk => ?_, ?_⟩
      · rw [State.unit_updUnit, here]
        simp [ends, yes]
      · rw [State.unit_updUnit_other _ _ hk, State.unit_updUnit_other _ _ hk]
      · rw [State.motion_updUnit, State.motion_updUnit s]
    · have no : ¬applies := fun h => h.elim ha hr
      rw [if_neg (by
        simp only [Bool.and_eq_true, decide_eq_true_eq, Bool.not_eq_true', and_assoc]
        exact fun h => hr h.2)]
      refine ⟨?_, fun k hk => s.unit_updUnit_other _ hk, s.motion_updUnit u _⟩
      rw [here]
      simp [ends, no, ha]

/-- Settles O49: ARRIVED and the move timer at a moving unit and at any other, and CLEAR_GLUE by its checks. -/
theorem glueMovesEndOrFault : Obligations.GlueMovesEndOrFault := by
  unfold Obligations.GlueMovesEndOrFault
  refine ⟨fun u s => ?_, fun tag s => ?_⟩
  · intro r quiet applies
    refine ⟨fun hu => ⟨?_, ?_⟩, fun hu => ⟨?_, ?_⟩⟩
    · have nothing : quiet.takeArrived u = quiet := if_neg hu
      exact (run_quiet s (fun t => t.takeArrived u) (by rw [nothing])).trans (by rw [nothing])
    · have nothing : quiet.takeMoveExpiry u = quiet := if_neg hu
      exact (run_quiet s (fun t => t.takeMoveExpiry u) (by rw [nothing])).trans (by rw [nothing])
    · obtain ⟨here, others, motion⟩ := State.takeArrived_moving (s := quiet) hu
      refine ⟨quiet.takeArrived u, rfl, ?_, others, here⟩
      rw [show ({ s.glue with units := (quiet.takeArrived u).glue.units } : Glue) = _ from motion.symm]
      refine eq_patch_of_erase (F := [.glue, .map, .notices, .inbox, .choice]) ?_
      rw [erase_takeArrived _ _ (by decide), erase_with_inbox _ _ (by decide)]
    · have faulted : quiet.takeMoveExpiry u =
          quiet.updUnit u (fun r => { r with state := .fault, applied := false, timer := none }) := if_pos hu
      refine ⟨quiet.takeMoveExpiry u, rfl, ?_, fun k hk => ?_, ?_⟩
      · rw [show ({ s.glue with units := (quiet.takeMoveExpiry u).glue.units } : Glue) = (quiet.takeMoveExpiry u).glue from
          (faulted ▸ (quiet.motion_updUnit u _).symm)]
        refine eq_patch_of_erase (F := [.glue, .map, .notices, .inbox, .choice]) ?_
        rw [erase_takeMoveExpiry _ _ (by decide), erase_with_inbox _ _ (by decide)]
      · rw [faulted]
        exact quiet.unit_updUnit_other _ hk
      · rw [faulted]
        exact quiet.unit_updUnit u _
  · intro h
    refine ⟨fun k hk => ?_, fun u => ?_⟩
    · have owner : h.reqClearGlue k = (h, .just .badValue) := by rw [State.reqClearGlue, glueUnitOfNumber_of_not hk]
      exact run_just (owner := fun t => t.reqClearGlue k) (by decide) owner rfl
    · have owner := State.reqClearGlue.eq_def h (GlueUnit.number u)
      rw [glueUnitOfNumber_number] at owner
      dsimp only at owner
      refine ⟨fun hbad => ?_, fun hm hf => ?_⟩
      · exact run_just (owner := fun t => t.reqClearGlue (GlueUnit.number u)) (by decide) (owner.trans (if_pos hbad)) rfl
      · replace owner := owner.trans (if_neg (not_or.mpr ⟨hm, not_not.mpr hf⟩))
        refine ⟨_, run_okWith_finish (owner := fun t => t.reqClearGlue (GlueUnit.number u)) (by decide) owner, ?_,
          h.unit_updUnit u _, fun k hk => h.unit_updUnit_other _ hk⟩
        refine Eq.trans ?_ (congrArg (fun g : Glue => ({ h with glue := g, map := _, notices := _, inbox := _, choice := _ } : State))
          (h.motion_updUnit u _))
        exact eq_patch_of_erase (F := [.glue, .map, .notices, .inbox, .choice]) (erase_updUnit _ _ _ (by decide))

end Sys2Proof.Machine

/-! ## The scanner and Heat Control: conversions, the supply header, the zone period and the zones' requests and timers -/

namespace Sys2Proof.Machine

/-! ### What a zone finds, and what leaves it -/

theorem State.findZoneState_congr {s t : State} {z : Zone} (hz : t.zone z = s.zone z) (hh : t.heat.header = s.heat.header)
    (hc : t.scanner = s.scanner) : t.findZoneState z = s.findZoneState z := by
  have reading : t.reading (zoneChannel z) = s.reading (zoneChannel z) := by rw [State.reading, hc, State.reading]
  simp only [State.findZoneState, hz, hh, reading]

/-- R142: under a header that is not READY an enabled zone waits for the supply. -/
theorem State.findZoneState_enabled {s : State} {z : Zone} (he : (s.zone z).enabled = true) (h : s.heat.header ≠ .ready) :
    s.findZoneState z = .waitingSupply := by
  simp [State.findZoneState, he, h]

theorem State.findZoneState_noReading {s : State} {z : Zone} (he : (s.zone z).enabled = true) (h : s.heat.header = .ready)
    (hr : s.reading (zoneChannel z) = none) : s.findZoneState z = .noReading := by
  simp [State.findZoneState, he, h, hr]

theorem State.findZoneState_bad {s : State} {z : Zone} {x : Reading} (he : (s.zone z).enabled = true) (h : s.heat.header = .ready)
    (hr : s.reading (zoneChannel z) = some x) (hb : x.bad = true) : s.findZoneState z = .probeFault := by
  simp [State.findZoneState, he, h, hr, hb]

/-- R142: with a good reading and no recipe that heats, a zone is IN_WINDOW. -/
theorem State.findZoneState_idle {s : State} {z : Zone} {x : Reading} (he : (s.zone z).enabled = true) (h : s.heat.header = .ready)
    (hr : s.reading (zoneChannel z) = some x) (hb : x.bad = false) (hq : (s.zone z).required = false) :
    s.findZoneState z = .inWindow := by
  rw [ZoneRec.required] at hq
  simp only [State.findZoneState, he, h, hr, hb]
  cases ha : (s.zone z).active with
  | none => simp
  | some a =>
    rw [ha] at hq
    have : a.setpoint = 0 := by simpa using hq
    simp [this]

/-- R142: a required zone with a good reading finds its place by its band. -/
theorem State.findZoneState_band {s : State} {z : Zone} {x : Reading} {a : ZoneRecipe} (he : (s.zone z).enabled = true)
    (h : s.heat.header = .ready) (hr : s.reading (zoneChannel z) = some x) (hb : x.bad = false) (hq : (s.zone z).required = true)
    (ha : (s.zone z).active = some a) :
    s.findZoneState z = if x.value < (a.setpoint : Int) - a.low then .below
      else if (a.setpoint : Int) + a.high < x.value then .above else .inWindow := by
  rw [ZoneRec.required, ha] at hq
  have : a.setpoint ≠ 0 := by
    have : 0 < a.setpoint := by simpa using hq
    omega
  simp [State.findZoneState, he, h, hr, hb, ha, this]

theorem scanner_of_erase {F : List Part} {s t : State} (h : t.erase F = s.erase F) (hF : .scanner ∉ F) : t.scanner = s.scanner := by
  simpa [State.erase, hF] using congrArg State.scanner h

theorem State.scanner_findZone (z : Zone) (s : State) : (State.findZone z s).scanner = s.scanner :=
  scanner_of_erase (erase_findZone z s (F := [.heat, .map, .inbox, .choice, .notices]) (by decide)) (by decide)

/-! ### A change of the header, taken at every zone (R142) -/

theorem State.heat_each_findZone (l : List Zone) (s : State) : (s.each l State.findZone).heat =
    { s.heat with zones := (s.each l State.findZone).heat.zones, slow := (s.each l State.findZone).heat.slow } := by
  unfold State.each
  induction l generalizing s with
  | nil => rfl
  | cons x l ih =>
    obtain ⟨c, hc⟩ := State.heat_findZone x s
    rw [List.foldl_cons, ih, hc]
    rfl

theorem State.state_each_findZone {l : List Zone} (hl : l.Nodup) {z : Zone} (hz : z ∈ l) (s : State) :
    ((s.each l State.findZone).zone z).state = s.findZoneState z := by
  have untouched (l : List Zone) (h : z ∉ l) (s : State) : (s.each l State.findZone).zone z = s.zone z := by
    unfold State.each
    induction l generalizing s with
    | nil => rfl
    | cons x l ih =>
      obtain ⟨hx, hl⟩ := not_or.mp (mt List.mem_cons.mpr h)
      rw [List.foldl_cons, ih hl, State.zone_findZone_other s hx]
  unfold State.each
  induction l generalizing s with
  | nil => cases hz
  | cons x l ih =>
    obtain ⟨hx, hl⟩ := List.nodup_cons.mp hl
    rw [List.foldl_cons]
    by_cases h : z = x
    · subst h
      rw [show (l.foldl (fun t x => State.findZone x t) (State.findZone z s)).zone z = (State.findZone z s).zone z from
        untouched l hx _, State.zone_findZone_same, ZoneRec.enter_state]
    · rw [ih hl ((List.mem_cons.mp hz).resolve_left h)]
      exact State.findZoneState_congr (State.zone_findZone_other s h) (State.header_findZone x s) (State.scanner_findZone x s)

theorem nodup_allZones : allZones.Nodup := by decide

/-- R140, R141: the header and its timer as they are set, all else of Heat Control but zones and heat-slow flag as before. -/
theorem State.heat_setHeader (s : State) (h : Header) (settle : Option Nat) : (s.setHeader h settle).heat =
    { s.heat with header := h, settle := settle, zones := (s.setHeader h settle).heat.zones, slow := (s.setHeader h settle).heat.slow } := by
  simp only [State.setHeader]
  split
  · rfl
  · rw [State.heat_each_findZone, heat_of_erase (erase_mark _ srcSupply (F := heatless) (by decide)) (by decide)]

/-- R142: a change of the header is taken at every zone, under the header it enters. -/
theorem State.state_setHeader {s : State} {h : Header} (hh : s.heat.header ≠ h) (settle : Option Nat) (z : Zone) :
    ((s.setHeader h settle).zone z).state = ({ s with heat := { s.heat with header := h, settle := settle } } : State).findZoneState z := by
  simp only [State.setHeader]
  rw [if_neg hh, State.state_each_findZone nodup_allZones (mem_allZones z)]
  exact State.findZoneState_congr (State.zone_of_heat (heat_of_erase (erase_mark _ _ (F := heatless) (by decide)) (by decide)) z)
    (congrArg Heat.header (heat_of_erase (erase_mark _ _ (F := heatless) (by decide)) (by decide)))
    (scanner_of_erase (erase_mark _ _ (F := [.notices]) (by decide)) (by decide))

/-- R142: a change to a state other than READY makes every enabled zone wait for the supply. -/
theorem State.waiting_setHeader {s : State} {h : Header} (hh : s.heat.header ≠ h) (hr : h ≠ .ready) (settle : Option Nat) {z : Zone}
    (he : (s.zone z).enabled = true) : ((s.setHeader h settle).zone z).state = .waitingSupply := by
  rw [State.state_setHeader hh]
  exact State.findZoneState_enabled he hr

/-! ### Conversions (R137, R138) -/

/-- Settles O44. -/
theorem conversionFormsRecord : Obligations.ConversionFormsRecord := by
  unfold Obligations.ConversionFormsRecord
  intro raw s
  let quiet : State := { s with inbox := [] }
  refine ⟨fun hc => ?_, fun hc => ?_⟩
  · have nothing : quiet.takeConversion raw = quiet := by
      rw [State.takeConversion, show quiet.scanner.conversion = none from hc]
    exact (run_quiet s (fun t => t.takeConversion raw) (by rw [nothing])).trans (by rw [nothing])
  · intro c scale
    obtain ⟨left, hleft⟩ := Option.ne_none_iff_exists'.mp hc
    have frame : (quiet.takeConversion raw).erase [.scanner, .heat, .glue, .map, .notices, .inbox, .choice] =
        s.erase [.scanner, .heat, .glue, .map, .notices, .inbox, .choice] := by
      rw [erase_takeConversion _ _ (by decide), erase_with_inbox _ _ (by decide)]
    have taken : quiet.takeConversion raw = if h : c.val < 12 then State.findZone ⟨c.val, h⟩ (quiet.formRecord raw)
        else State.findUnit ⟨c.val - 12, by omega⟩ (quiet.formRecord raw) := by
      rw [State.takeConversion, show quiet.scanner.conversion = some left from hleft]
    obtain ⟨hscanner, hheat, hmotion, hzones, hunits⟩ :
        (quiet.takeConversion raw).scanner = (quiet.formRecord raw).scanner ∧
        (quiet.takeConversion raw).heat =
          { s.heat with zones := (quiet.takeConversion raw).heat.zones, slow := (quiet.takeConversion raw).heat.slow } ∧
        (quiet.takeConversion raw).glue.motion = s.glue.motion ∧
        (∀ z : Zone, zoneChannel z ≠ c → (quiet.takeConversion raw).zone z = s.zone z) ∧
        ∀ u : GlueUnit, unitChannel u ≠ c → (quiet.takeConversion raw).unit u = s.unit u := by
      rw [taken]
      split
      · next h =>
        obtain ⟨slow, heat⟩ := State.heat_findZone ⟨c.val, h⟩ (quiet.formRecord raw)
        have glue : (State.findZone ⟨c.val, h⟩ (quiet.formRecord raw)).glue = s.glue := by
          have := erase_findZone ⟨c.val, h⟩ (quiet.formRecord raw) (F := [.heat, .map, .inbox, .choice, .notices]) (by decide)
          simpa [State.erase, State.formRecord] using congrArg State.glue this
        refine ⟨State.scanner_findZone _ _, by rw [heat]; rfl, congrArg Glue.motion glue, fun z hz => ?_, fun u _ => ?_⟩
        · exact State.zone_findZone_other _ fun e => hz (by rw [e]; rfl)
        · rw [State.unit, glue, State.unit]
      · next h =>
        have glue := State.glue_findUnitAt (quiet.formRecord raw).tracker.pos ⟨c.val - 12, by omega⟩ (quiet.formRecord raw)
        have same := erase_findUnit ⟨c.val - 12, by omega⟩ (quiet.formRecord raw) (F := [.glue, .map, .inbox, .choice, .notices])
          (by decide)
        have heat : (State.findUnit ⟨c.val - 12, by omega⟩ (quiet.formRecord raw)).heat = (quiet.formRecord raw).heat :=
          heat_of_erase same (by decide)
        refine ⟨scanner_of_erase same (by decide), by rw [heat]; rfl, ?_, fun z _ => State.zone_of_heat heat z, fun u hu => ?_⟩
        · exact (congrArg Glue.motion glue :)
        · rw [State.unit, State.findUnit, glue]
          refine State.unit_setUnit_other _ _ fun e => hu (Fin.ext ?_)
          rw [e]
          simp only [unitChannel]
          omega
    refine ⟨_, rfl, eq_patch_of_erase frame, hheat, hmotion, hzones, hunits, ?_, ?_, ?_, fun k hk => ?_⟩
    · exact congrArg Scanner.pointer hscanner
    · exact congrArg Scanner.conversion hscanner
    · rw [State.reading, show (quiet.takeConversion raw).scanner = _ from hscanner, State.formRecord, tget_tset_same, Scaling.read,
        Bool.decide_or]
      rfl
    · rw [State.reading, show (quiet.takeConversion raw).scanner = _ from hscanner, State.formRecord, tget_tset_other _ _ hk]
      rfl

end Sys2Proof.Machine

/-! ## Heat Control: SET_SUPPLY, PRESSURE OK and the settle timer -/

namespace Sys2Proof.Machine

theorem onOfCode_of_le {k : Nat} (h : 2 ≤ k) : onOfCode k = none := by
  obtain ⟨n, rfl⟩ := Nat.exists_eq_add_of_le' h
  rfl

/-- R140: what SET_SUPPLY on does to a header that is OFF. -/
theorem State.setSupply_on (s : State) (h : s.heat.header = .off) :
    (if s.heat.header = .off then (if s.heat.pressureOk then s.startSettle else s.setHeader .lost none) else s) =
      s.setHeader (if s.heat.pressureOk then .settling else .lost) (if s.heat.pressureOk then some s.zonesCfg.supplySettle else none) := by
  rw [if_pos h]
  split <;> rfl

theorem State.header_setHeader (s : State) (h : Header) (settle : Option Nat) : (s.setHeader h settle).heat.header = h := by
  rw [State.heat_setHeader]

theorem State.settle_setHeader (s : State) (h : Header) (settle : Option Nat) : (s.setHeader h settle).heat.settle = settle := by
  rw [State.heat_setHeader]

theorem State.pressureOk_setHeader (s : State) (h : Header) (settle : Option Nat) :
    (s.setHeader h settle).heat.pressureOk = s.heat.pressureOk := by
  rw [State.heat_setHeader]

/-- The parts a change of the header can touch. -/
theorem frame_setHeader (s : State) (h : Header) (settle : Option Nat) :
    s.setHeader h settle = { s with
      heat := (s.setHeader h settle).heat, map := (s.setHeader h settle).map, notices := (s.setHeader h settle).notices,
      inbox := (s.setHeader h settle).inbox, choice := (s.setHeader h settle).choice } :=
  eq_patch_of_erase (F := [.heat, .map, .notices, .inbox, .choice]) (erase_setHeader _ _ _ (by decide))

/-- R140: SET_SUPPLY by its checks and the state of the header. -/
theorem setSupply_moves (tag : Byte) (s : State) :
    (∀ k : Nat, 2 ≤ k →
      exec (.setSupply tag k) s = .next ((s.heard 0x48 tag).answered 0x48 tag .badValue []).refreshLimits) ∧
    (∀ k : Nat, k < 2 → s.gov.mode = .unconfigured →
      exec (.setSupply tag k) s = .next ((s.heard 0x48 tag).answered 0x48 tag .wrongMode []).refreshLimits) ∧
    (s.gov.mode ≠ .unconfigured → s.heat.header ≠ .off →
      exec (.setSupply tag 1) s = .next
        ((s.heard 0x48 tag).answered 0x48 tag .ok (u8 (Header.code s.heat.header))).refreshLimits) ∧
    (s.gov.mode ≠ .unconfigured → s.heat.header = .off →
      ∃ t : State, exec (.setSupply tag 1) s =
          .next (t.answered 0x48 tag .ok (u8 (Header.code t.heat.header))).finish ∧
        t = { s.heard 0x48 tag with heat := t.heat, map := t.map, notices := t.notices, inbox := t.inbox, choice := t.choice } ∧
        t.heat.header = (if s.heat.pressureOk then .settling else .lost) ∧
        t.heat.settle = (if s.heat.pressureOk then some s.zonesCfg.supplySettle else none) ∧
        ∀ z : Zone, (s.zone z).enabled = true → (t.zone z).state = .waitingSupply) ∧
    (s.gov.mode ≠ .unconfigured →
      ∃ t : State, exec (.setSupply tag 0) s = .next (t.answered 0x48 tag .ok [0]).finish ∧
        t = { s.heard 0x48 tag with heat := t.heat, map := t.map, notices := t.notices, inbox := t.inbox, choice := t.choice } ∧
        t.heat.header = .off ∧ t.heat.settle = none ∧
        (s.heat.header ≠ .off → ∀ z : Zone, (s.zone z).enabled = true → (t.zone z).state = .waitingSupply)) := by
  let h := s.heard 0x48 tag
  refine ⟨fun k hk => ?_, fun k hk hm => ?_, fun hm ho => ?_, fun hm ho => ?_, fun hm => ?_⟩
  · have owner : h.reqSetSupply k = (h, .just .badValue) := by rw [State.reqSetSupply, onOfCode_of_le hk]
    exact run_just (owner := fun t => t.reqSetSupply k) (by decide) owner rfl
  · have owner : h.reqSetSupply k = (h, .just .wrongMode) := by
      match k with
      | 0 => exact if_pos hm
      | 1 => exact if_pos hm
      | k + 2 => omega
    exact run_just (owner := fun t => t.reqSetSupply k) (by decide) owner rfl
  · have kept : (if h.heat.header = .off then (if h.heat.pressureOk then h.startSettle else h.setHeader .lost none) else h) = h :=
      if_neg ho
    have owner : h.reqSetSupply 1 = (h, .okWith (u8 h.heat.header.code)) :=
      (if_neg hm).trans (congrArg (fun t : State => (t, Reply.okWith (u8 t.heat.header.code))) kept)
    exact run_okWith (owner := fun t => t.reqSetSupply 1) (by decide) owner rfl
  · have moved := h.setSupply_on ho
    have owner : h.reqSetSupply 1 = _ :=
      (if_neg hm).trans (congrArg (fun t : State => (t, Reply.okWith (u8 t.heat.header.code))) moved)
    refine ⟨_, run_okWith_finish (owner := fun t => t.reqSetSupply 1) (by decide) owner, frame_setHeader h _ _,
      h.header_setHeader _ _, h.settle_setHeader _ _, fun z hz => ?_⟩
    refine State.waiting_setHeader (s := h) ?_ ?_ _ hz
    · rw [show h.heat.header = .off from ho]
      split <;> nofun
    · split <;> nofun
  · have code : u8 (Header.code (h.setHeader .off none).heat.header) = [0] := by rw [h.header_setHeader]; rfl
    have owner : h.reqSetSupply 0 = (h.setHeader .off none, .okWith [0]) := by
      rw [← code]
      exact if_neg hm
    exact ⟨_, run_okWith_finish (owner := fun t => t.reqSetSupply 0) (by decide) owner, frame_setHeader h _ _,
      h.header_setHeader _ _, h.settle_setHeader _ _,
      fun ho z hz => State.waiting_setHeader (s := h) ho (by nofun) _ hz⟩

/-- R141: what a level of PRESSURE OK does to the header. -/
theorem State.takePressure_cases (s : State) (ok : Bool) :
    (∃ h settle, h ≠ s.heat.header ∧ h ≠ .ready ∧
      ((ok = true ∧ s.heat.header = .lost ∧ h = .settling ∧ settle = some s.zonesCfg.supplySettle) ∨
        (ok = false ∧ (s.heat.header = .settling ∨ s.heat.header = .ready) ∧ h = .lost ∧ settle = none)) ∧
      s.takePressure ok = ({ s with heat := { s.heat with pressureOk := ok } } : State).setHeader h settle) ∨
    (¬(ok = true ∧ s.heat.header = .lost) ∧ ¬(ok = false ∧ (s.heat.header = .settling ∨ s.heat.header = .ready)) ∧
      s.takePressure ok = { s with heat := { s.heat with pressureOk := ok } }) := by
  cases ok with
  | true =>
    by_cases hl : s.heat.header = .lost
    · exact .inl ⟨.settling, _, by rw [hl]; nofun, nofun, .inl ⟨rfl, hl, rfl, rfl⟩, if_pos hl⟩
    · exact .inr ⟨fun h => hl h.2, nofun, if_neg hl⟩
  | false =>
    by_cases hl : s.heat.header = .settling ∨ s.heat.header = .ready
    · exact .inl ⟨.lost, none, fun e => by simp [← e] at hl, nofun, .inr ⟨rfl, hl, rfl, rfl⟩, if_pos hl⟩
    · exact .inr ⟨nofun, fun h => hl h.2, if_neg hl⟩

/-- Settles O45: the header by its own state, and what the zones find under the header it enters. -/
theorem supplyHeaderMoves : Obligations.SupplyHeaderMoves := by
  unfold Obligations.SupplyHeaderMoves
  refine ⟨setSupply_moves, fun ok s => ?_, fun s => ?_⟩
  · let quiet : State := { s with inbox := [] }
    refine ⟨quiet.takePressure ok, rfl, ?_, ?_⟩
    · refine eq_patch_of_erase (F := [.heat, .map, .notices, .inbox, .choice]) ?_
      rw [erase_takePressure _ _ (by decide), erase_with_inbox _ _ (by decide)]
    · obtain ⟨h, settle, hne, hr, hcase, taken⟩ | ⟨hn, hf, taken⟩ := quiet.takePressure_cases ok
      · rw [taken]
        refine ⟨State.pressureOk_setHeader _ _ _, (State.header_setHeader _ _ _).trans ?_, (State.settle_setHeader _ _ _).trans ?_,
          fun _ z hz => State.waiting_setHeader (s := { quiet with heat := { quiet.heat with pressureOk := ok } }) hne.symm hr
            settle hz⟩
        · rcases hcase with ⟨hok, hl, rfl, -⟩ | ⟨hok, hl, rfl, -⟩
          · exact (if_pos ⟨hok, hl⟩).symm
          · exact ((if_neg (fun h => by rw [hok] at h; exact nomatch h.1)).trans (if_pos ⟨hok, hl⟩)).symm
        · rcases hcase with ⟨hok, hl, -, rfl⟩ | ⟨hok, hl, -, rfl⟩
          · exact (if_pos ⟨hok, hl⟩).symm
          · exact ((if_neg (fun h => by rw [hok] at h; exact nomatch h.1)).trans (if_pos ⟨hok, hl⟩)).symm
      · rw [taken]
        exact ⟨rfl, ((if_neg hn).trans (if_neg hf)).symm, ((if_neg hn).trans (if_neg hf)).symm, fun h => absurd rfl h⟩
  · let quiet : State := { s with inbox := [] }
    refine ⟨fun hh => ?_, fun hh => ?_⟩
    · have nothing : quiet.takeSettleExpiry = quiet := if_neg hh
      exact (run_quiet s State.takeSettleExpiry (by rw [nothing])).trans (by rw [nothing])
    · have taken : quiet.takeSettleExpiry = quiet.setHeader .ready none := if_pos hh
      refine ⟨quiet.takeSettleExpiry, rfl, ?_, ?_, ?_, fun z hz hr => ?_⟩
      · refine eq_patch_of_erase (F := [.heat, .map, .notices, .inbox, .choice]) ?_
        rw [erase_takeSettleExpiry _ (by decide), erase_with_inbox _ _ (by decide)]
      · rw [taken]
        exact quiet.header_setHeader _ _
      · rw [taken]
        exact quiet.settle_setHeader _ _
      · rw [taken, State.state_setHeader (by rw [show quiet.heat.header = .settling from hh]; nofun)]
        exact State.findZoneState_noReading hz rfl hr

end Sys2Proof.Machine

/-! ## Heat Control: the zone period, ENABLE_ZONE, and the hold and below timers -/

namespace Sys2Proof.Machine

/-! ### The zone period (R143 to R146) -/

/-- R144, R145: a zone with a place by its band: full control, or no output where it is not required or has no reading. -/
def ZoneRec.control (r : ZoneRec) (g : Gains) (pv : Option Reading) (ref : Nat) : ZoneRec :=
  match r.active, pv with
  | some a, some x => if a.setpoint = 0 then { r with output := 0 } else r.regulate g a x.value ref
  | _, _ => { r with output := 0 }

/-- What the zone period makes of a zone's record under its gains, its reading and the reference. -/
def ZoneRec.atPeriod (r : ZoneRec) (g : Gains) (pv : Option Reading) (ref : Nat) : ZoneRec :=
  match r.state with
  | .off => { r with output := 0 }
  | .waitingSupply => { r with output := 0 }
  | .noReading => r.feedOnly ref
  | .probeFault =>
    match r.hold with
    | .holding v _ => { r with output := v }
    | _ => r.feedOnly ref
  | _ => r.control g pv ref

/-- A zone at the zone period writes its own record, by that record, its gains, its reading and the reference alone. -/
theorem State.zonePeriod_eq (z : Zone) (s : State) :
    State.zonePeriod z s =
      s.setZone z ((s.zone z).atPeriod (tget s.zonesCfg.gains z) (s.reading (zoneChannel z)) s.gov.reference) := by
  unfold State.zonePeriod ZoneRec.atPeriod ZoneRec.control
  dsimp only
  cases (s.zone z).state with
  | off | waitingSupply | noReading => rfl
  | probeFault => cases (s.zone z).hold <;> rfl
  | below | inWindow | above =>
    cases (s.zone z).active with
    | none => cases s.reading (zoneChannel z) <;> rfl
    | some a =>
      cases s.reading (zoneChannel z) with
      | none => rfl
      | some x =>
        dsimp only
        split <;> rfl

/-- Each zone of a list at the zone period is as the state before the list leaves it. -/
theorem State.each_zonePeriod {l : List Zone} (hl : l.Nodup) (s : State) :
    ∃ zs : Vector ZoneRec 12, s.each l State.zonePeriod = { s with heat := { s.heat with zones := zs } } ∧
      ∀ z ∈ l, tget zs z =
        (s.zone z).atPeriod (tget s.zonesCfg.gains z) (s.reading (zoneChannel z)) s.gov.reference := by
  suffices h : ∃ zs : Vector ZoneRec 12, s.each l State.zonePeriod = { s with heat := { s.heat with zones := zs } } ∧
      ∀ z, tget zs z = if z ∈ l then
        (s.zone z).atPeriod (tget s.zonesCfg.gains z) (s.reading (zoneChannel z)) s.gov.reference else s.zone z by
    obtain ⟨zs, hzs, at_⟩ := h
    exact ⟨zs, hzs, fun z hz => (at_ z).trans (if_pos hz)⟩
  unfold State.each
  induction l generalizing s with
  | nil => exact ⟨s.heat.zones, rfl, fun z => rfl⟩
  | cons x l ih =>
    obtain ⟨hx, hl⟩ := List.nodup_cons.mp hl
    obtain ⟨zs, hzs, at_⟩ := ih hl (State.zonePeriod x s)
    refine ⟨zs, ?_, fun z => (at_ z).trans ?_⟩
    · rw [List.foldl_cons, hzs, State.zonePeriod_eq]
      rfl
    · rw [State.zonePeriod_eq]
      by_cases hz : z = x
      · subst hz
        rw [if_neg hx, if_pos List.mem_cons_self, State.zone_setZone]
      · simp only [State.zone_setZone_other _ _ hz, List.mem_cons, hz, false_or]
        rfl

theorem toNat_clampOutput (x : Int) : ((clampInt 0 1000 x).toNat : Int) = max 0 (min 1000 x) :=
  Int.toNat_of_nonneg (le_max_left _ _)

namespace ZoneRec

variable (r : ZoneRec) (g : Gains) (pv : Option Reading) (ref : Nat)

/-- R143 to R146: the zone period changes output and integral alone. -/
theorem atPeriod_kept : r.atPeriod g pv ref =
    { r with output := (r.atPeriod g pv ref).output, integral := (r.atPeriod g pv ref).integral } := by
  unfold atPeriod control feedOnly
  (repeat' split) <;> rfl

theorem feedOnly_required {a : ZoneRecipe} (ha : r.active = some a) (hs : 0 < a.setpoint) :
    ((r.feedOnly ref).output : Int) = max 0 (min 1000 (Int.tdiv ((a.base : Int) * ref) 4500)) := by
  rw [feedOnly, ha]
  dsimp only
  rw [if_neg (by omega)]
  exact toNat_clampOutput _

theorem feedOnly_idle (ha : r.active = none ∨ ∃ a, r.active = some a ∧ a.setpoint = 0) : (r.feedOnly ref).output = 0 := by
  rcases ha with ha | ⟨a, ha, hs⟩
  · rw [feedOnly, ha]
  · rw [feedOnly, ha]
    exact if_pos hs

theorem feedOnly_integral : (r.feedOnly ref).integral = r.integral := by
  unfold feedOnly
  split <;> rfl

variable {r}

/-- R144, R146: a zone without a reading, or in a probe fault no longer held, is fed forward. -/
theorem atPeriod_feeds (h : r.state = .noReading ∨ (r.state = .probeFault ∧ ∀ v t, r.hold ≠ .holding v t)) :
    r.atPeriod g pv ref = r.feedOnly ref := by
  rcases h with h | ⟨h, hold⟩
  · unfold atPeriod
    rw [h]
  · unfold atPeriod
    rw [h]
    cases hh : r.hold with
    | none | ffOnly => rfl
    | holding v t => exact absurd hh (hold v t)

/-- R144, R145: a zone with a reading and a place by its band. -/
theorem atPeriod_heats (h : r.state = .below ∨ r.state = .inWindow ∨ r.state = .above) :
    (∀ a x, r.active = some a → 0 < a.setpoint → pv = some x → r.atPeriod g pv ref = r.regulate g a x.value ref) ∧
      (r.active = none ∨ (∃ a, r.active = some a ∧ a.setpoint = 0) ∨ pv = none → r.atPeriod g pv ref = { r with output := 0 }) := by
  have place : r.atPeriod g pv ref = r.control g pv ref := by
    unfold atPeriod
    rcases h with h | h | h <;> rw [h]
  refine ⟨fun a x ha hs hx => ?_, fun hn => ?_⟩
  · rw [place]
    unfold control
    rw [ha, hx]
    exact if_neg (by omega)
  · rw [place]
    unfold control
    rcases hn with ha | ⟨a, ha, hs⟩ | hx
    · rw [ha]
    · rw [ha]
      cases pv with
      | none => rfl
      | some x => exact if_pos hs
    · rw [hx]
      cases r.active <;> rfl

end ZoneRec

/-- Settles O46: each zone by its state, over the records the zone period leaves. -/
theorem zonePeriodSetsOutputs : Obligations.ZonePeriodSetsOutputs := by
  unfold Obligations.ZonePeriodSetsOutputs
  intro s
  let quiet : State := { s with inbox := [] }
  obtain ⟨zs, hzs, at_⟩ := quiet.each_zonePeriod nodup_allZones
  refine ⟨zs, ?_, fun z => ?_⟩
  · exact (run_quiet s State.takeZonePeriod (congrArg State.inbox hzs)).trans (congrArg (fun t => Host.Outcome.next t.quietEnd) hzs)
  · intro r x ff heats feeds
    have hx : x = r.atPeriod (tget s.zonesCfg.gains z) (s.reading (zoneChannel z)) s.gov.reference := at_ z (mem_allZones z)
    clear_value r x
    refine ⟨?_, fun h => ?_, fun h => ?_, fun v t hs hh => ?_, fun h a ha hp => ?_, fun h ha => ?_, fun h a y ha hp hy => ?_⟩
    · rw [hx]
      exact r.atPeriod_kept _ _ _
    · rw [hx]
      unfold ZoneRec.atPeriod
      cases hs : r.state with
      | off | waitingSupply => rfl
      | noReading => exact r.feedOnly_integral _
      | probeFault =>
        cases r.hold with
        | holding v t => rfl
        | none | ffOnly => exact r.feedOnly_integral _
      | below | inWindow | above => exact absurd (by simp [heats, hs]) h
    · rw [hx]
      unfold ZoneRec.atPeriod
      rcases h with h | h <;> rw [h]
    · rw [hx]
      unfold ZoneRec.atPeriod
      rw [hs, hh]
    · rw [hx, ZoneRec.atPeriod_feeds _ _ _ h]
      exact r.feedOnly_required _ ha hp
    · rw [hx]
      rcases h with h | h
      · rw [ZoneRec.atPeriod_feeds _ _ _ h]
        exact r.feedOnly_idle _ ha
      · rw [(ZoneRec.atPeriod_heats _ _ _ h).2 (ha.imp_right .inl)]
    · intro e prop di u
      have regulated : x = r.regulate (tget s.zonesCfg.gains z) a y.value s.gov.reference :=
        hx.trans ((ZoneRec.atPeriod_heats _ _ _ h).1 a y ha hp hy)
      rw [regulated]
      exact ⟨apply_ite (clampInt (-1000) 1000) _ _ _, toNat_clampOutput _⟩

/-! ### ENABLE_ZONE (R152) -/

@[simp] theorem zoneOfNumber_val (z : Zone) : Zone.ofNumber z.val = some z := dif_pos z.isLt

/-- R152: what a request that changes a zone's setting leaves of Heat Control. -/
theorem State.enableZone_changed {s : State} {z : Zone} {on : Bool} :
    let t := State.findZone z (s.setZone z { s.zone z with enabled := on })
    t.heat = { s.heat with zones := t.heat.zones, slow := t.heat.slow } ∧ (t.zone z).enabled = on ∧
      (t.zone z).state = (s.setZone z { s.zone z with enabled := on }).findZoneState z ∧
      ∀ k : Zone, k ≠ z → t.zone k = s.zone k := by
  intro t
  have same := State.zone_findZone_same z (s.setZone z { s.zone z with enabled := on })
  obtain ⟨c, hc⟩ := State.heat_findZone z (s.setZone z { s.zone z with enabled := on })
  refine ⟨by rw [hc]; rfl, ?_, ?_, fun k hk => ?_⟩
  · rw [same, ZoneRec.enter_enabled, State.zone_setZone]
  · rw [same, ZoneRec.enter_state]
  · rw [State.zone_findZone_other _ hk, State.zone_setZone_other _ _ hk]

/-- R152: ENABLE_ZONE of a zone and a setting in their ranges, outside UNCONFIGURED. -/
theorem State.reqEnableZone_of (s : State) (z : Zone) (on : Bool) (hm : s.gov.mode ≠ .unconfigured) :
    s.reqEnableZone z.val (if on then 1 else 0) =
      let t := if (s.zone z).enabled = on then s else State.findZone z (s.setZone z { s.zone z with enabled := on })
      (t, .okWith (u8 (t.zone z).state.code ++ encBool (!(t.zone z).window))) := by
  have code : onOfCode (if on then 1 else 0) = some on := by cases on <;> rfl
  rw [State.reqEnableZone, zoneOfNumber_val, code]
  exact if_neg hm

/-- R142, R152: ENABLE_ZONE by its checks and by what the zone finds. -/
theorem enableZone_finds (tag : Byte) (s : State) :
    (∀ k x : Nat, 12 ≤ k ∨ 2 ≤ x →
      exec (.enableZone tag k x) s = .next ((s.heard 0x49 tag).answered 0x49 tag .badValue []).refreshLimits) ∧
    ∀ (z : Zone) (on : Bool),
      let c : Instr := .enableZone tag z.val (if on then 1 else 0)
      (s.gov.mode = .unconfigured →
        exec c s = .next ((s.heard 0x49 tag).answered 0x49 tag .wrongMode []).refreshLimits) ∧
      (s.gov.mode ≠ .unconfigured →
        ∃ t : State,
          exec c s = .next (t.answered 0x49 tag .ok
            (u8 (ZoneState.code (t.zone z).state) ++ encBool (!(t.zone z).window))).finish ∧
          t = { s.heard 0x49 tag with
            heat := { s.heat with zones := t.heat.zones, slow := t.heat.slow }, map := t.map, notices := t.notices,
            inbox := t.inbox, choice := t.choice } ∧
          (t.zone z).enabled = on ∧ ((s.zone z).enabled = on → t = s.heard 0x49 tag) ∧
          ((s.zone z).enabled ≠ on → on = false → (t.zone z).state = .off) ∧
          ((s.zone z).enabled ≠ on → on = true → s.heat.header ≠ .ready → (t.zone z).state = .waitingSupply) ∧
          ((s.zone z).enabled ≠ on → on = true → s.heat.header = .ready →
            (s.reading (zoneChannel z) = none → (t.zone z).state = .noReading) ∧
            ∀ x, s.reading (zoneChannel z) = some x →
              (x.bad = true → (t.zone z).state = .probeFault) ∧
              (x.bad = false → (s.zone z).required = false → (t.zone z).state = .inWindow) ∧
              ∀ a, x.bad = false → (s.zone z).required = true → (s.zone z).active = some a →
                (t.zone z).state = (if x.value < (a.setpoint : Int) - a.low then .below
                  else if (a.setpoint : Int) + a.high < x.value then .above else .inWindow)) ∧
          ∀ k : Zone, k ≠ z → t.zone k = s.zone k) := by
  let h := s.heard 0x49 tag
  refine ⟨fun k x hkx => ?_, fun z on => ⟨fun hm => ?_, fun hm => ?_⟩⟩
  · have owner : h.reqEnableZone k x = (h, .just .badValue) := by
      rcases hkx with hk | hx
      · rw [State.reqEnableZone, show Zone.ofNumber k = none from dif_neg (by omega)]
      · rw [State.reqEnableZone, onOfCode_of_le hx]
        cases Zone.ofNumber k <;> rfl
    exact run_just (owner := fun t => t.reqEnableZone k x) (by decide) owner rfl
  · have code : onOfCode (if on then 1 else 0) = some on := by cases on <;> rfl
    have owner : h.reqEnableZone z.val (if on then 1 else 0) = (h, .just .wrongMode) := by
      rw [State.reqEnableZone, zoneOfNumber_val, code]
      exact if_pos hm
    exact run_just (owner := fun t => t.reqEnableZone z.val (if on then 1 else 0)) (by decide) owner rfl
  · have owner := h.reqEnableZone_of z on hm
    by_cases he : (s.zone z).enabled = on
    · have kept : (if (h.zone z).enabled = on then h else State.findZone z (h.setZone z { h.zone z with enabled := on })) = h :=
        if_pos he
      rw [kept] at owner
      exact ⟨h, run_okWith_finish (owner := fun t => t.reqEnableZone z.val (if on then 1 else 0)) (by decide) owner, rfl, he,
        fun _ => rfl, fun hn => absurd he hn, fun hn => absurd he hn, fun hn => absurd he hn, fun _ _ => rfl⟩
    · have changes : (if (h.zone z).enabled = on then h else State.findZone z (h.setZone z { h.zone z with enabled := on })) =
          State.findZone z (h.setZone z { h.zone z with enabled := on }) := if_neg he
      rw [changes] at owner
      obtain ⟨heat, enabled, found, others⟩ := h.enableZone_changed (z := z) (on := on)
      have here := h.zone_setZone z { h.zone z with enabled := on }
      refine ⟨_, run_okWith_finish (owner := fun t => t.reqEnableZone z.val (if on then 1 else 0)) (by decide) owner, ?_, enabled,
        fun h => absurd h he, fun _ hon => ?_, fun _ hon hh => ?_, fun _ hon hh => ⟨fun hr => ?_, fun x hx => ⟨fun hb => ?_, fun hb hq => ?_,
          fun a hb hq ha => ?_⟩⟩, others⟩
      · refine Eq.trans ?_ (congrArg (fun g : Heat => ({ h with heat := g, map := _, notices := _, inbox := _, choice := _ } : State))
          heat)
        refine eq_patch_of_erase (F := [.heat, .map, .notices, .inbox, .choice]) ?_
        rw [erase_findZone _ _ (by decide)]
        exact erase_with_heat _ _ (by decide)
      · exact found.trans (State.findZoneState_off (by rw [here]; exact hon))
      · exact found.trans (State.findZoneState_enabled (by rw [here]; exact hon) hh)
      · exact found.trans (State.findZoneState_noReading (by rw [here]; exact hon) hh hr)
      · exact found.trans (State.findZoneState_bad (by rw [here]; exact hon) hh hx hb)
      · exact found.trans (State.findZoneState_idle (by rw [here]; exact hon) hh hx hb (by rw [here]; exact hq))
      · exact found.trans (State.findZoneState_band (by rw [here]; exact hon) hh hx hb (by rw [here]; exact hq) (by rw [here]; exact ha))

/-! ### The hold and below timers (R146, R151) -/

/-- R151: the below timer's expiry is recorded and sets the heat-slow flag. -/
theorem State.heat_takeBelowExpiry {s : State} {z : Zone} {k : Nat} (h : (s.zone z).below = .running k) :
    (s.takeBelowExpiry z).heat =
      { (s.setZone z { s.zone z with below := .expired }).heat with slow := true } := by
  simp only [State.takeBelowExpiry, h]
  unfold State.setSlow
  split
  · next hs => rw [← hs]
  · exact heat_of_erase (erase_mark _ _ (F := heatless) (by decide)) (by decide)

/-- Settles O47. -/
theorem zoneEnableHoldAndBelow : Obligations.ZoneEnableHoldAndBelow := by
  unfold Obligations.ZoneEnableHoldAndBelow
  refine ⟨enableZone_finds, fun z s => ?_⟩
  intro quiet
  refine ⟨fun hh => ?_, fun v t hh => ?_, fun hb => ?_, fun k hb => ?_⟩
  · have nothing : quiet.takeHoldExpiry z = quiet := by
      unfold State.takeHoldExpiry
      cases hz : (quiet.zone z).hold with
      | none | ffOnly => rfl
      | holding v t => exact absurd hz (hh v t)
    exact (run_quiet s (fun t => t.takeHoldExpiry z) (by rw [nothing])).trans (by rw [nothing])
  · have taken : quiet.takeHoldExpiry z = quiet.setZone z { s.zone z with hold := .ffOnly } := by
      rw [State.takeHoldExpiry, show (quiet.zone z).hold = .holding v t from hh]
      rfl
    exact (run_quiet s (fun t => t.takeHoldExpiry z) (by rw [taken]; rfl)).trans (by rw [taken])
  · have nothing : quiet.takeBelowExpiry z = quiet := by
      unfold State.takeBelowExpiry
      cases hz : (quiet.zone z).below with
      | stopped | expired => rfl
      | running t => exact absurd hz (hb t)
    exact (run_quiet s (fun t => t.takeBelowExpiry z) (by rw [nothing])).trans (by rw [nothing])
  · have heat := State.heat_takeBelowExpiry (s := quiet) hb
    have same : (quiet.takeBelowExpiry z).erase [.heat, .notices] = quiet.erase [.heat, .notices] :=
      erase_takeBelowExpiry _ _ (by decide)
    have silent : (quiet.takeBelowExpiry z).inbox = [] := by
      simpa [State.erase] using congrArg State.inbox same
    have ended : (quiet.takeBelowExpiry z).quietEnd.heat = (quiet.takeBelowExpiry z).heat :=
      heat_of_erase (erase_quietEnd _ (F := [.limits, .notices, .link]) (by decide)) (by decide)
    refine ⟨_, run_quiet s (fun t => t.takeBelowExpiry z) silent, ?_, ?_, ?_, fun y hy => ?_, fun hm => ?_⟩
    · have frame : (quiet.takeBelowExpiry z).quietEnd.erase [.heat, .limits, .notices, .link] =
          quiet.erase [.heat, .limits, .notices, .link] := by
        rw [erase_quietEnd _ (by decide), erase_takeBelowExpiry _ _ (by decide)]
      refine (eq_patch_of_erase frame).trans ?_
      have zones : (quiet.takeBelowExpiry z).quietEnd.heat =
          { s.heat with zones := (quiet.takeBelowExpiry z).quietEnd.heat.zones, slow := true } := by
        rw [ended, heat]
        rfl
      exact congrArg (fun g : Heat => ({ quiet with heat := g, limits := _, notices := _, link := _ } : State)) zones
    · rw [State.zone, ended, heat]
      exact quiet.zone_setZone z _
    · rw [ended, heat]
    · rw [State.zone, ended, heat]
      exact quiet.zone_setZone_other _ hy
    · have limits : (quiet.takeBelowExpiry z).quietEnd.limits.heat = (quiet.takeBelowExpiry z).heatLimit := by
        rw [State.quietEnd, limits_of_erase (erase_offerNotice _ (F := [.notices, .link]) (by decide)) (by decide),
          limits_refreshLimits]
        rfl
      have slow : (quiet.takeBelowExpiry z).heat.slow = true := by rw [heat]
      rw [limits, State.heatLimit, slow, gov_of_erase same (by decide), State.zonesCfg, cfg_of_erase same (by decide)]
      exact if_neg hm

end Sys2Proof.Machine

/-! ## The Speed Governor: RUN, STOP, SET_SPEED, the ESTOP line, RESUME and CONFIGURE -/

namespace Sys2Proof.Machine

/-! ### RUN, STOP and SET_SPEED (R177 to R179) -/

/-- R177: the three conditions of RUN are the three lists of NOT_READY being empty. -/
theorem State.runFails_iff (s : State) :
    (!s.idleStands.isEmpty || !s.faultStations.isEmpty || decide (s.stacker.mode = .blocked)) = true ↔
      ¬((∀ n : Stand, (s.stand n).running.isSome = true) ∧ s.stationState .a ≠ .fault ∧ s.stationState .b ≠ .fault ∧
        s.stacker.mode ≠ .blocked) := by
  have stands : s.idleStands = [] ↔ ∀ n : Stand, (s.stand n).running.isSome = true := by
    have every (n : Stand) : n ∈ allStands := by decide +revert
    simp [State.idleStands, List.filter_eq_nil_iff, every, Option.isSome_iff_ne_none]
  have stations : s.faultStations = [] ↔ s.stationState .a ≠ .fault ∧ s.stationState .b ≠ .fault := by
    simp [State.faultStations, List.filter_eq_nil_iff]
  rw [Bool.or_eq_true, Bool.or_eq_true, Bool.not_eq_true', Bool.not_eq_true', List.isEmpty_eq_false_iff, List.isEmpty_eq_false_iff,
    decide_eq_true_eq, ne_eq, ne_eq, stands, stations]
  tauto

/-- Settles O51. -/
theorem runAndSetSpeed : Obligations.RunAndSetSpeed := by
  unfold Obligations.RunAndSetSpeed
  intro tag s h ready
  refine ⟨fun hm => ?_, fun hm hr => ?_, fun hm hr => ?_, fun v => ?_⟩
  · exact run_just (owner := State.reqRun) (by decide) (if_pos hm) rfl
  · have owner := (State.reqRun.eq_def h).trans ((if_neg (not_not.mpr hm)).trans (if_pos (h.runFails_iff.mpr hr)))
    exact (run_serve_quiet _ _ _ _ (congrArg (fun r => r.1.inbox) owner)).trans
      (congrArg (fun r : State × Reply => Host.Outcome.next (r.1.replied 0x02 tag r.2).refreshLimits) owner)
  · have owner : h.reqRun = (h.enterMode .running, .just .ok) :=
      (if_neg (not_not.mpr hm)).trans (if_neg (mt h.runFails_iff.mp (not_not.mpr hr)))
    refine (run_just_finish (owner := State.reqRun) (by decide) owner).trans ?_
    rw [← hm]
    rfl
  · exact run_okWith (kind := 0x04) (owner := fun t => t.reqSetSpeed v) (by decide) rfl rfl

/-- Settles O52, by the line mode. -/
theorem stopEntersStopping : Obligations.StopEntersStopping := by
  unfold Obligations.StopEntersStopping
  intro tag s h
  refine ⟨fun hm => ?_, fun hm => ?_, fun hr hs => ?_⟩
  · have owner : h.reqStop = ({ h with gov := { h.gov with fast := false } }.enterMode .stopping, .just .ok) := by
      rw [State.reqStop, show h.gov.mode = .running from hm]
    refine (run_just_finish (owner := State.reqStop) (by decide) owner).trans ?_
    rw [← hm]
    rfl
  · have owner : h.reqStop = (h, .just .ok) := by rw [State.reqStop, show h.gov.mode = .stopping from hm]
    exact run_just (owner := State.reqStop) (by decide) owner rfl
  · have owner : h.reqStop = (h, .just .wrongMode) := by
      unfold State.reqStop
      cases hm : h.gov.mode with
      | running => exact absurd hm hr
      | stopping => exact absurd hm hs
      | unconfigured | stopped | halted | estopped => rfl
    exact run_just (owner := State.reqStop) (by decide) owner rfl

/-! ### The ESTOP line (R19, R184, R185) -/

/-- A position less than 2^31 counts ahead of E lies as far ahead of it as it is counts beyond. -/
theorem lead_of_beyond {e p : Pos} (h : (p - e).toNat < 2147483648) : lead e p = (p - e).toNat := by
  unfold lead Pos.ahead
  rw [BitVec.toInt_eq_toNat_cond]
  simp only [BitVec.toNat_sub] at h ⊢
  omega

theorem toNat_plus_sub (e : Pos) {d : Nat} (h : d < 2147483648) : (e.plus d - e).toNat = d := by
  unfold Pos.plus
  rw [add_sub_cancel_left, BitVec.toNat_ofNat]
  omega

theorem isReached_plus {e : Pos} {d : Nat} (h0 : 0 < d) (h : d < 2147483648) : isReached e (e.plus d) = false := by
  have := toNat_plus_sub e h
  rw [isReached, decide_eq_false_iff_not]
  simp only [BitVec.toNat_sub] at this ⊢
  omega

/-- R6: a span added from E on covers its board. -/
theorem State.covers_added_here {s : State} {d : Nat} {p : Pos} (hg : s.cfg.geometry.isSome = true) (hd : d < 2147483648)
    (hp : (p - s.tracker.pos).toNat < d) (kind : SpanKind) (src : Source) :
    (s.addSpan kind src s.tracker.pos (s.tracker.pos.plus d)).covers p = true := by
  refine State.covers_added hg (isReached_plus (by omega) hd) ⟨?_, ?_⟩ kind src
  · have here : clampStart s.tracker.pos s.tracker.pos = s.tracker.pos := ite_self _
    rw [here, lead_of_beyond (p := p) (by omega), lead_of_beyond (by simp), BitVec.sub_self]
    exact Int.natCast_nonneg _
  · rw [lead_of_beyond (p := p) (by omega), lead_of_beyond (by rw [toNat_plus_sub _ hd]; exact hd), toNat_plus_sub _ hd]
    exact Int.ofNat_lt.mpr hp

/-- R200: an ESTOP event is always recorded. -/
theorem Notices.waiting_occur_estop (u : Notices) (d : EventData) : tget (u.occur srcEstop d).waiting srcEstop = true := by
  unfold Notices.occur
  rw [if_neg fun h => h.1 rfl]
  split
  · next h => exact h
  · exact tget_tset_same _ _ _

theorem Notices.markChanged_markChanged (u : Notices) (i : NoticeSource) : (u.markChanged i).markChanged i = u.markChanged i := by
  have twice : tset (tset u.waiting i true) i true = tset u.waiting i true := by
    have := tset_tget (tset u.waiting i true) i
    rwa [tget_tset_same] at this
  by_cases h : tget u.levels i = 7 <;> simp [Notices.markChanged, h, twice]

/-- R184: an assertion of the ESTOP line that enters ESTOPPED. -/
theorem State.takeAssert_enters {s : State} (hu : s.gov.mode ≠ .unconfigured) (he : s.gov.mode ≠ .estopped) :
    s.takeAssert = State.enterEstopped { s with gov := { s.gov with estopLine := true } } := by
  unfold State.takeAssert
  cases hm : s.gov.mode with
  | unconfigured => exact absurd hm hu
  | estopped => exact absurd hm he
  | stopped | running | stopping | halted => rfl

theorem State.reqResume_estopped {s : State} (hm : s.gov.mode = .estopped) (hl : s.gov.estopLine = false) :
    s.reqResume =
      let s1 := { s with gov := { s.gov with haltOwed := false } }.enterMode .stopped
      let t := if s.gov.haltOwed then s1.enterMode .halted else s1
      (t, .okWith (u8 t.gov.mode.code)) := by
  rw [State.reqResume, hm]
  dsimp only
  rw [if_neg (by rw [hl]; nofun)]
  rfl

theorem State.reqResume_notReady {s : State} (hm : s.gov.mode ≠ .halted) (hl : ¬(s.gov.mode = .estopped ∧ s.gov.estopLine = false)) :
    s.reqResume = (s, { status := .notReady, fields := [.raw (u8 s.gov.mode.code)] }) := by
  unfold State.reqResume
  cases he : s.gov.mode with
  | halted => exact absurd he hm
  | estopped =>
    have line : s.gov.estopLine = true := by
      cases h : s.gov.estopLine with
      | true => rfl
      | false => exact absurd ⟨he, h⟩ hl
    dsimp only
    rw [if_pos line, he]
  | unconfigured | stopped | running | stopping => simp only [he]

/-- Settles O53. -/
theorem estopAndResume : Obligations.EstopAndResume := by
  unfold Obligations.EstopAndResume
  intro tag s quiet h entered
  refine ⟨fun hm => ?_, fun hm => ?_, fun hu he => ?_, ?_, fun hm => ?_, fun hm hl ho => ?_, fun hm hl ho => ?_, fun hm hl => ?_⟩
  · have taken : quiet.takeAssert = { quiet with
        gov := { s.gov with estopLine := true },
        notices := s.notices.occur srcEstop (.estop s.tracker.pos .unconfigured none) } := by
      rw [State.takeAssert, show quiet.gov.mode = .unconfigured from hm]
      rfl
    exact (run_quiet s State.takeAssert (by rw [taken])).trans (by rw [taken])
  · have taken : quiet.takeAssert = { quiet with gov := { s.gov with estopLine := true } } := by
      rw [State.takeAssert, show quiet.gov.mode = .estopped from hm]
    exact (run_quiet s State.takeAssert (by rw [taken])).trans (by rw [taken])
  · let s1 : State := { s with
      gov := entered { s.gov with
        estopLine := true, reference := 0, fast := false,
        haltOwed := s.gov.haltOwed || decide (s.gov.mode = .halted ∨ (s.gov.mode = .stopping ∧ s.gov.fast = true)) } .estopped,
      notices := s.notices.markChanged srcLineMode, inbox := [.modeEntry s.gov.mode .estopped] }
    have owed : (decide (s.gov.mode = .halted) || (decide (s.gov.mode = .stopping) && s.gov.fast)) =
        decide (s.gov.mode = .halted ∨ (s.gov.mode = .stopping ∧ s.gov.fast = true)) := by
      rw [Bool.decide_or, Bool.decide_and, Bool.decide_eq_true]
    have entering : ({ quiet with gov := { s.gov with
        estopLine := true, reference := 0, fast := false,
        haltOwed := s.gov.haltOwed || (decide (s.gov.mode = .halted) || (decide (s.gov.mode = .stopping) && s.gov.fast)) } } :
        State).enterMode .estopped = s1 := by
      rw [owed]
      rfl
    let a := s1.addSpanTell .stop .estop s.tracker.pos (s.tracker.pos.plus s.dWet)
    have taken : quiet.takeAssert = a.1.raise srcEstop (.estop s.tracker.pos s.gov.mode (a.2.map a.1.viewOf)) := by
      rw [State.takeAssert_enters (s := quiet) hu he]
      exact congrArg (fun t : State =>
        let b := t.addSpanTell .stop .estop s.tracker.pos (s.tracker.pos.plus s.dWet)
        b.1.raise srcEstop (.estop s.tracker.pos s.gov.mode (b.2.map b.1.viewOf))) entering
    refine ⟨quiet.takeAssert, a.1, a.2, rfl, rfl, taken, ?_, ?_, fun hg hd p hp => ?_⟩
    · refine eq_patch_of_erase (F := [.gov, .map, .notices, .inbox, .choice]) ?_
      rw [erase_takeAssert _ (by decide), erase_with_inbox _ _ (by decide)]
    · rw [taken]
      exact Notices.waiting_occur_estop _ _
    · rw [taken]
      exact State.covers_added_here (s := s1) hg hd hp .stop .estop
  · exact run_quiet s State.takeRelease rfl
  · have owner : h.reqResume = (({ h with gov := { h.gov with haltRecord := none } } : State).enterMode .stopped, .okWith [1]) := by
      rw [State.reqResume, show h.gov.mode = .halted from hm]
      rfl
    refine (run_okWith_finish (owner := State.reqResume) (by decide) owner).trans ?_
    rw [← hm]
    rfl
  · have owner := State.reqResume_estopped (s := h) hm hl
    rw [show h.gov.haltOwed = false from ho] at owner
    have same : ({ h.gov with haltOwed := false } : Governor) = h.gov := by rw [← show h.gov.haltOwed = false from ho]
    rw [same] at owner
    refine (run_okWith_finish (owner := State.reqResume) (by decide) owner).trans ?_
    rw [← hm]
    rfl
  · have owner := State.reqResume_estopped (s := h) hm hl
    rw [show h.gov.haltOwed = true from ho] at owner
    have entering : (({ h with gov := { h.gov with haltOwed := false } } : State).enterMode .stopped).enterMode .halted = { h with
        gov := entered (entered { s.gov with haltOwed := false } .stopped) .halted,
        inbox := [.modeEntry .estopped .stopped, .modeEntry .stopped .halted],
        notices := s.notices.markChanged srcLineMode } := by
      rw [← Notices.markChanged_markChanged s.notices, ← hm]
      rfl
    rw [← entering]
    exact run_okWith_finish (owner := State.reqResume) (by decide) owner
  · have owner := State.reqResume_notReady (s := h) hm hl
    refine (run_serve_quiet _ _ _ _ (congrArg (fun r => r.1.inbox) owner)).trans ?_
    rw [owner, replied_plain _ _ _ _ _ (by decide)]
    rfl

end Sys2Proof.Machine

/-! ## The Speed Governor: CONFIGURE -/

namespace Sys2Proof.Machine

/-! ### What waits still waits -/

/-- A span added takes no event from those that wait. -/
theorem State.mem_inbox_addSpanTell {e : Ev} {s : State} (h : e ∈ s.inbox) (kind : SpanKind) (src : Source) (a b : Pos) :
    e ∈ (s.addSpanTell kind src a b).1.inbox := by
  simp only [State.addSpanTell]
  split
  · exact h
  · split
    · exact State.mem_inbox_setSpans h _ _
    · split
      · exact State.mem_inbox_setSpans h _ _
      · split
        · exact h
        · exact State.mem_inbox_setSpans h _ _

/-! ### The ends of CONFIGURE -/

/-- R184: the emergency stop entered waits as a mode entry, behind what waited. -/
theorem State.enterEstopped_enters (s : State) :
    s.enterEstopped.gov.mode = .estopped ∧ Ev.modeEntry s.gov.mode .estopped ∈ s.enterEstopped.inbox ∧
      ∀ e ∈ s.inbox, e ∈ s.enterEstopped.inbox := by
  refine ⟨?_, State.mem_inbox_addSpanTell ?_ .stop .estop _ _, fun e he => State.mem_inbox_addSpanTell ?_ .stop .estop _ _⟩
  · exact congrArg Governor.mode
      (gov_of_erase (erase_addSpanTell _ .stop .estop _ _ (F := [.map, .notices, .inbox, .choice]) (by decide)) (by decide))
  · exact List.mem_append_right _ (List.mem_singleton_self _)
  · exact List.mem_append_left _ he

theorem cutoff_of_erase {F : List Part} {s t : State} (h : t.erase F = s.erase F) (hF : .cutoff ∉ F) : t.cutoff = s.cutoff := by
  simpa [State.erase, hF] using congrArg State.cutoff h

/-- R172: the sections in force with one replaced. -/
def Sections.replace (c : Sections) : Section → Sections
  | .geometry g => { c with geometry := some g }
  | .stands v => { c with stands := some v }
  | .dryend d => { c with dryend := some d }
  | .zones z => { c with zones := some z }
  | .governor g => { c with governor := some g }
  | .other _ => c

/-- R58, R172: what applying a section leaves of the sections, the Governor and the Cutoff Unit. -/
theorem State.applySection_replaces (s : State) (sec : Section) :
    (s.applySection sec).cfg = s.cfg.replace sec ∧ (s.applySection sec).gov = s.gov ∧
      ((∀ d, sec ≠ .dryend d) → (s.applySection sec).cutoff = s.cutoff) := by
  have gov : (s.applySection sec).gov = s.gov :=
    gov_of_erase (erase_applySection s sec (F := [.cfg, .stands, .cutoff, .scanner, .inbox]) (by decide)) (by decide)
  refine ⟨?_, gov, fun hd => ?_⟩
  · cases sec with
    | geometry | dryend | governor | other => rfl
    | stands v => exact cfg_of_erase (erase_standsAccepted _ (F := [.stands, .inbox]) (by decide)) (by decide)
    | zones z => exact cfg_of_erase (erase_startScanner _ (F := [.scanner]) (by decide)) (by decide)
  · cases sec with
    | geometry | governor | other => rfl
    | dryend d => exact absurd rfl (hd d)
    | stands v => exact (cutoff_of_erase (erase_standsAccepted _ (F := [.stands, .inbox]) (by decide)) (by decide) :)
    | zones z => exact (cutoff_of_erase (erase_startScanner _ (F := [.scanner]) (by decide)) (by decide) :)

/-- R175: the fifth section leaves UNCONFIGURED, and an asserted ESTOP line is taken at once. -/
theorem State.leaveUnconfigured_leaves {s : State} (hm : s.gov.mode = .unconfigured) (hc : s.cfg.accepted.length = 5) :
    s.leaveUnconfigured.gov.mode = (if s.gov.estopLine then .estopped else .stopped) ∧
      Ev.modeEntry .unconfigured .stopped ∈ s.leaveUnconfigured.inbox ∧
      (s.gov.estopLine = true → Ev.modeEntry .stopped .estopped ∈ s.leaveUnconfigured.inbox) := by
  have entry : Ev.modeEntry .unconfigured .stopped ∈ (s.enterMode .stopped).inbox := by
    rw [← hm]
    exact List.mem_append_right _ (List.mem_singleton_self _)
  have leaves : s.leaveUnconfigured = if s.gov.estopLine then (s.enterMode .stopped).takeAssert else s.enterMode .stopped :=
    if_pos ⟨hm, hc⟩
  rw [leaves]
  by_cases hl : s.gov.estopLine = true
  · rw [if_pos hl, if_pos hl, State.takeAssert_enters (s := s.enterMode .stopped) (by nofun) (by nofun)]
    obtain ⟨mode, told, kept⟩ := State.enterEstopped_enters
      { s.enterMode .stopped with gov := { (s.enterMode .stopped).gov with estopLine := true } }
    exact ⟨mode, kept _ entry, fun _ => told⟩
  · rw [if_neg hl, if_neg hl]
    exact ⟨rfl, entry, fun h => absurd h hl⟩

/-- Settles O50: the checks of R172 in their order, and what a section that passes does. -/
theorem configureChecksAndApplies : Obligations.ConfigureChecksAndApplies := by
  unfold Obligations.ConfigureChecksAndApplies
  intro tag sec s h c refused atRest
  have refuses {st : Status} (hst : s.sectionCheck sec = some st) : refused st := by
    have owner : h.reqConfigure sec = (h, .just st) := by rw [State.reqConfigure, show h.sectionCheck sec = some st from hst]
    exact run_just (owner := fun t => t.reqConfigure sec) (by decide) owner rfl
  have moving (hr : ¬atRest) : (!(decide (s.gov.mode = .unconfigured) || decide (s.gov.mode = .stopped))) = true := by
    simpa [atRest] using hr
  refine ⟨fun st => refuses, fun k hk => refuses ?_, fun g hg => ⟨fun hr => refuses ?_, fun hr hused => refuses ?_⟩, fun hsec hr => refuses ?_,
    fun hsec he => refuses ?_, fun hpass => ?_⟩
  · rw [hk]
    rfl
  · rw [hg]
    exact if_pos (moving hr)
  · rw [hg]
    have rests : ¬(!(decide (s.gov.mode = .unconfigured) || decide (s.gov.mode = .stopped))) = true := by
      rw [Bool.not_eq_true', Bool.not_eq_false, Bool.or_eq_true, decide_eq_true_eq, decide_eq_true_eq]
      exact hr
    have used : (!s.book.orders.isEmpty || !s.map.spans.isEmpty) = true := by simpa using hused
    exact (if_neg rests).trans (if_pos used)
  · rcases hsec with ⟨v, rfl⟩ | ⟨d, rfl⟩
    · exact if_pos (moving hr)
    · exact if_pos (moving hr)
  · rcases hsec with ⟨z, rfl⟩ | ⟨g, rfl⟩
    · exact if_pos he
    · exact if_pos he
  · let t := (h.applySection sec).leaveUnconfigured
    have owner : h.reqConfigure sec = (t, .okWith (encList u8 t.cfg.accepted ++ u8 t.gov.mode.code)) := by
      rw [State.reqConfigure, show h.sectionCheck sec = none from hpass]
    obtain ⟨cfg, gov, cutoff⟩ := h.applySection_replaces sec
    have left := erase_leaveUnconfigured (h.applySection sec) (F := [.gov, .map, .inbox, .choice, .notices]) (by decide)
    have tcfg : t.cfg = s.cfg.replace sec := (cfg_of_erase left (by decide)).trans cfg
    refine ⟨t, run_okWith_finish (owner := fun t => t.reqConfigure sec) (by decide) owner, ?_, ?_, ?_, fun hstay => ?_, fun hm h5 => ?_⟩
    · refine eq_patch_of_erase (F := [.cfg, .gov, .cutoff, .stands, .scanner, .map, .notices, .inbox, .choice]) ?_
      rw [erase_leaveUnconfigured _ (by decide), erase_applySection _ _ (by decide)]
    · rw [cutoff_of_erase left (by decide)]
      cases sec with
      | dryend d => rfl
      | geometry | stands | zones | governor | other => exact cutoff (by nofun)
    · rw [tcfg]
      cases sec <;> rfl
    · have stays : ¬((h.applySection sec).gov.mode = .unconfigured ∧ (h.applySection sec).cfg.accepted.length = 5) := by
        rw [gov, ← cfg_of_erase left (by decide)]
        rintro ⟨hm, h5⟩
        exact hstay.elim (fun h => h hm) fun h => absurd h5 (Nat.ne_of_lt h)
      exact (congrArg State.gov (if_neg stays)).trans gov
    · have leaves := State.leaveUnconfigured_leaves (s := h.applySection sec) (by rw [gov]; exact hm)
        (by rw [← cfg_of_erase left (by decide)]; exact h5)
      rw [gov] at leaves
      exact leaves

end Sys2Proof.Machine

/-! ## The Line Link: requests and their frames, the receiver and the transmitter -/

namespace Sys2Proof.Machine

/-! ### A request and its frame (R192, R193) -/

/-- Every well-formed request reads back from its frame. -/
theorem decodeRequest_encodeRequest {i : Instr} (hi : i.wf = true) {f : Frame} (hf : encodeRequest i = some f) :
    decodeRequest f = .ok i := by
  cases i with
  | powerOn | forwardCount | reverseCount | governorPeriodExpiry | planRefreshExpiry | zonePeriodExpiry | knifeCycleExpiry
  | setTimerExpiry | setDone | pasteFail | cutFail | transferExpiry | pasted | cutInput | webLost | prepared | transferDone
  | stackTaken | arrived | moveTimerExpiry | pressureOkChange | settleExpiry | conversionComplete | holdExpiry
  | belowTimerExpiry | estopAssert | estopRelease | byteReceived | gapTimerExpiry | lastByteSent | unknownRequest => cases hf
  | resetPart tag => exact Laws.Codec.resetPart tag hi f hf
  | configure tag sec => exact Laws.Codec.configure tag sec hi f hf
  | run tag => exact Laws.Codec.run tag hi f hf
  | stop tag => exact Laws.Codec.stop tag hi f hf
  | setSpeed tag speed => exact Laws.Codec.setSpeed tag speed hi f hf
  | resume tag => exact Laws.Codec.resume tag hi f hf
  | readLine tag => exact Laws.Codec.readLine tag hi f hf
  | addReject tag start stop => exact Laws.Codec.addReject tag start stop hi f hf
  | readMap tag => exact Laws.Codec.readMap tag hi f hf
  | setGrade tag code g => exact Laws.Codec.setGrade tag code g hi f hf
  | readGrade tag code => exact Laws.Codec.readGrade tag code hi f hf
  | addOrder tag o => exact Laws.Codec.addOrder tag o hi f hf
  | changeCount tag id ordered allowance => exact Laws.Codec.changeCount tag id ordered allowance hi f hf
  | cancelOrder tag id => exact Laws.Codec.cancelOrder tag id hi f hf
  | readOrder tag id => exact Laws.Codec.readOrder tag id hi f hf
  | listOrders tag => exact Laws.Codec.listOrders tag hi f hf
  | readCompleted tag => exact Laws.Codec.readCompleted tag hi f hf
  | holdKnife tag => exact Laws.Codec.holdKnife tag hi f hf
  | releaseKnife tag => exact Laws.Codec.releaseKnife tag hi f hf
  | readKnife tag => exact Laws.Codec.readKnife tag hi f hf
  | clearStation tag station => exact Laws.Codec.clearStation tag station hi f hf
  | readSlitter tag => exact Laws.Codec.readSlitter tag hi f hf
  | readStacker tag => exact Laws.Codec.readStacker tag hi f hf
  | loadRoll tag stand arm r => exact Laws.Codec.loadRoll tag stand arm r hi f hf
  | markReady tag stand arm => exact Laws.Codec.markReady tag stand arm hi f hf
  | unloadRoll tag stand arm => exact Laws.Codec.unloadRoll tag stand arm hi f hf
  | thread tag stand arm => exact Laws.Codec.thread tag stand arm hi f hf
  | clearStand tag stand arm => exact Laws.Codec.clearStand tag stand arm hi f hf
  | readStand tag stand => exact Laws.Codec.readStand tag stand hi f hf
  | spliceNow tag stand => exact Laws.Codec.spliceNow tag stand hi f hf
  | cancelSplice tag stand => exact Laws.Codec.cancelSplice tag stand hi f hf
  | readSplice tag stand => exact Laws.Codec.readSplice tag stand hi f hf
  | setSupply tag on => exact Laws.Codec.setSupply tag on hi f hf
  | enableZone tag zone on => exact Laws.Codec.enableZone tag zone on hi f hf
  | readZones tag => exact Laws.Codec.readZones tag hi f hf
  | clearGlue tag unit => exact Laws.Codec.clearGlue tag unit hi f hf
  | readGlue tag => exact Laws.Codec.readGlue tag hi f hf
  | setLevel tag source level => exact Laws.Codec.setLevel tag source level hi f hf
  | setThreshold tag threshold => exact Laws.Codec.setThreshold tag threshold hi f hf
  | readSummary tag => exact Laws.Codec.readSummary tag hi f hf

/-- Settles O55. -/
theorem requestFrameSpellsCommand : Obligations.RequestFrameSpellsCommand := by
  intro i f hi hf
  have read := decodeRequest_encodeRequest hi hf
  refine ⟨read, fun s => ?_⟩
  rw [exec_eq, effect_of_encodeRequest hf, State.handle, State.takeRequest]
  simp only [read]

/-! ### The transmitter (R192, R195) -/

/-- R192: with no request in hand the oldest frame of the queue is taken in hand. -/
theorem State.takeNext_of {s : State} {g : Frame} {l : List Frame} (hh : s.link.inHand = none) (hq : s.link.queue = g :: l) :
    s.takeNext = ({ s with link := { s.link with inHand := some (g.kind, g.tag), queue := l } } : State).post (.request g) := by
  rw [State.takeNext, hh, hq]

/-- R192: a request in hand keeps the queue waiting. -/
theorem State.takeNext_inHand {s : State} (hh : s.link.inHand.isSome = true) : s.takeNext = s := by
  obtain ⟨x, hx⟩ := Option.isSome_iff_exists.mp hh
  rw [State.takeNext, hx]

theorem State.takeNext_empty {s : State} (hq : s.link.queue = []) : s.takeNext = s := by
  unfold State.takeNext
  rw [hq]
  cases s.link.inHand <;> rfl

/-- R195: a notice offered leaves the request in hand, the queue and what waits. -/
theorem State.offerNotice_link (s : State) :
    s.offerNotice.link.inHand = s.link.inHand ∧ s.offerNotice.link.queue = s.link.queue ∧ s.offerNotice.inbox = s.inbox := by
  unfold State.offerNotice
  (repeat' split) <;> exact ⟨rfl, rfl, rfl⟩

/-- Settles O57, by what the transmitter was sending. -/
theorem lastByteFreesTransmitter : Obligations.LastByteFreesTransmitter := by
  unfold Obligations.LastByteFreesTransmitter
  intro s quiet freed done
  have next : s.link.nextReply = freed := by
    cases hw : s.link.waiting <;> simp only [Link.nextReply, freed, hw]
  have queued : ({ s.link.nextReply with inHand := none } : Link).queue = s.link.queue := by
    unfold Link.nextReply
    split <;> rfl
  refine ⟨fun ht => ?_, fun f ht => ?_, fun f ht hq => ?_, fun f g l ht hq => ?_⟩
  · have taken : quiet.takeLastByte = quiet := by rw [State.takeLastByte, show quiet.link.tx = .idle from ht]
    exact (run_quiet s State.takeLastByte (by rw [taken])).trans (by rw [taken])
  · have taken : quiet.takeLastByte = { quiet with link := freed } := by
      rw [State.takeLastByte, show quiet.link.tx = .notice f from ht, ← next]
    exact (run_quiet s State.takeLastByte (by rw [taken])).trans (by rw [taken])
  · have taken : quiet.takeLastByte = done := by
      rw [State.takeLastByte, show quiet.link.tx = .reply f from ht]
      dsimp only
      rw [if_pos (by rw [show quiet.link.queue = [] from hq]; rfl)]
      exact congrArg (fun k : Link => ({ quiet with link := { k with inHand := none } } : State)) next
    exact (run_quiet s State.takeLastByte (by rw [taken])).trans (by rw [taken])
  · have taken : quiet.takeLastByte = State.takeNext { done with choice := s.choice + 1 } ∨
        quiet.takeLastByte = State.takeNext (State.offerNotice { done with choice := s.choice + 1 }) := by
      rw [State.takeLastByte, show quiet.link.tx = .reply f from ht]
      dsimp only
      rw [if_neg (by rw [show quiet.link.queue = g :: l from hq]; nofun)]
      have freed_done : ({ quiet with link := { s.link.nextReply with inHand := none } } : State) = done :=
        congrArg (fun k : Link => ({ quiet with link := { k with inHand := none } } : State)) next
      split
      · exact .inl (congrArg (fun t : State => State.takeNext { t with choice := s.choice + 1 }) freed_done)
      · exact .inr (congrArg (fun t : State => State.takeNext (State.offerNotice { t with choice := s.choice + 1 })) freed_done)
    have queue : done.link.queue = g :: l := by
      refine Eq.trans ?_ hq
      rw [← queued, next]
    refine ⟨quiet.takeLastByte, rfl, ?_⟩
    obtain ⟨hand, kept, inbox⟩ := State.offerNotice_link { done with choice := s.choice + 1 }
    rcases taken with h | h
    · have took := State.takeNext_of (s := { done with choice := s.choice + 1 }) rfl queue
      exact ⟨by rw [h, took]; rfl, by rw [h, took]; rfl, by rw [h, took]; rfl, .inl h⟩
    · have took := State.takeNext_of (s := State.offerNotice { done with choice := s.choice + 1 }) hand (kept.trans queue)
      refine ⟨by rw [h, took]; rfl, by rw [h, took]; rfl, ?_, .inr h⟩
      rw [h, took]
      exact congrArg (· ++ [Ev.request g]) inbox

end Sys2Proof.Machine

/-! ## The Line Link: the receiver -/

namespace Sys2Proof.Machine

/-! ### One byte (R189) -/

theorem State.receive_nil (fuel : Nat) (s : State) : State.receive fuel [] s = s := by cases fuel <;> rfl

theorem State.rxFuel_eq (s : State) : s.rxFuel = s.rxFuel - 1 + 1 :=
  (Nat.sub_add_cancel (Nat.mul_pos (Nat.succ_pos _) (Nat.succ_pos _))).symm

variable {s : State} {b : Byte}

theorem State.takeByte_on {st : RxState} {bs : List Byte} (h : rxStep s.link.rxState s.link.rxBytes b = .on st bs) :
    s.takeByte b true = s.setRx st bs := by
  rw [State.takeByte, if_pos rfl, State.rxFuel_eq, State.receive, h]
  exact State.receive_nil _ _

theorem State.takeByte_good {bs : List Byte} (h : rxStep s.link.rxState s.link.rxBytes b = .good bs) :
    s.takeByte b true = (s.setRx .hunting []).offerFrame (frameOf bs) := by
  rw [State.takeByte, if_pos rfl, State.rxFuel_eq, State.receive, h]
  exact State.receive_nil _ _

theorem State.takeByte_drop {cause : LinkCause} {bs : List Byte} (h : rxStep s.link.rxState s.link.rxBytes b = .drop cause bs) :
    s.takeByte b true = State.receive (s.rxFuel - 1) (bs.drop 1) ((s.setRx .hunting []).discard cause bs) := by
  rw [State.takeByte, if_pos rfl, State.rxFuel_eq, State.receive, h]
  dsimp only
  rw [List.append_nil, ← State.rxFuel_eq]

/-! ### A frame, byte by byte (R189, R191) -/

/-- The state the receiver is in after some bytes of a frame with a payload length. -/
def rxPhase (n k : Nat) : RxState := if k < 5 then .header else if k < 5 + n then .payload else .check

/-- R189: a byte that does not complete its frame, all bytes so far giving its length. -/
theorem rxStep_phase {n k : Nat} {bs : List Byte} {b : Byte} (hk : bs.length = k) (h1 : 1 ≤ k) (hn : n ≤ 1024)
    (hlen : 3 ≤ k + 1 → frameLength (bs ++ [b]) = n) (hlast : k + 1 < 7 + n) :
    rxStep (rxPhase n k) bs b = .on (rxPhase n (k + 1)) (bs ++ [b]) := by
  have all : (bs ++ [b]).length = k + 1 := by rw [List.length_append, hk]; rfl
  unfold rxPhase
  by_cases hheader : k < 5
  · rw [if_pos hheader]
    simp only [rxStep, all]
    by_cases h5 : k + 1 = 5
    · have length : frameLength (bs ++ [b]) = n := hlen (by omega)
      rw [if_neg (show ¬(k + 1 = 3 ∧ _) from fun h => by omega), if_pos h5, length, if_neg (show ¬k + 1 < 5 by omega)]
      by_cases h0 : n = 0
      · rw [if_pos h0, if_neg (by omega)]
      · rw [if_neg h0, if_pos (by omega)]
    · have fits : ¬(k + 1 = 3 ∧ Config.maxPayload < frameLength (bs ++ [b])) := by
        rintro ⟨h3, hlong⟩
        rw [hlen (by omega)] at hlong
        exact absurd hlong (Nat.not_lt.mpr hn)
      rw [if_neg fits, if_neg h5, if_pos (by omega)]
  · have length : frameLength (bs ++ [b]) = n := hlen (by omega)
    rw [if_neg hheader, if_neg (show ¬k + 1 < 5 by omega)]
    by_cases hpayload : k < 5 + n
    · rw [if_pos hpayload]
      simp only [rxStep, all, length]
      by_cases hend : k + 1 = 5 + n
      · rw [if_pos hend, if_neg (by omega)]
      · rw [if_neg hend, if_pos (by omega)]
    · rw [if_neg hpayload, if_neg (by omega)]
      simp only [rxStep, all, length]
      rw [if_neg (by omega)]

section

variable (f : Frame)

theorem length_body : f.body.length = 4 + f.payload.length := by
  simp only [Frame.body, u16, List.length_append, List.length_cons, List.length_nil]

theorem length_wire : f.wire.length = 7 + f.payload.length := by
  simp only [Frame.wire, u16, List.length_cons, List.length_append, length_body, List.length_nil]
  omega

theorem lowByte_add_highByte (n : Nat) (h : n < 65536) : n % 256 + 256 * (n / 256 % 256) = n := by omega

/-- R189: the length bytes give the payload's length, as soon as both have come. -/
theorem frameLength_take_wire (h : f.payload.length ≤ 1024) {k : Nat} (hk : 3 ≤ k) : frameLength (f.wire.take k) = f.payload.length := by
  obtain ⟨m, rfl⟩ := Nat.exists_eq_add_of_le' hk
  simp only [frameLength, Frame.wire, Frame.body, u16, List.cons_append, List.nil_append, List.take_succ_cons, List.getElem?_cons_succ,
    List.getElem?_cons_zero, BitVec.toNat_ofNat]
  exact lowByte_add_highByte f.payload.length (by omega)

theorem frameLength_wire (h : f.payload.length ≤ 1024) : frameLength f.wire = f.payload.length := by
  have := frameLength_take_wire f h (k := f.wire.length) (by rw [length_wire]; omega)
  rwa [List.take_length] at this

theorem checkAgrees_wire (h : f.payload.length ≤ 1024) : checkAgrees f.wire = true := by
  have rest : f.wire.drop (5 + f.payload.length) = u16 (crc16 f.body).toNat := by
    rw [show 5 + f.payload.length = f.body.length + 1 by rw [length_body]; omega, Frame.wire, List.drop_succ_cons, List.drop_left]
  have covered : (f.wire.drop 1).take (4 + f.payload.length) = f.body := by
    rw [← length_body, Frame.wire, List.drop_succ_cons, List.drop_zero, List.take_left]
  simp only [checkAgrees, frameLength_wire f h, rest, covered, decide_eq_true_eq]
  rfl

theorem frameOf_wire (h : f.payload.length ≤ 1024) : frameOf f.wire = f := by
  have payload : (f.wire.drop 5).take f.payload.length = f.payload := by
    simp only [Frame.wire, Frame.body, u16, List.cons_append, List.nil_append, List.drop_succ_cons, List.drop_zero, List.take_left]
  rw [frameOf, frameLength_wire f h, payload]
  rfl

end

/-- R189: after the lead byte and before the last, the receiver holds the bytes that have come. -/
theorem State.receive_wire (f : Frame) (h : f.payload.length ≤ 1024) (hs : s.link.rxState = .hunting) {k : Nat} (h1 : 1 ≤ k)
    (hk : k < 7 + f.payload.length) :
    (f.wire.take k).foldl (fun (t : State) (b : Byte) => t.takeByte b true) s = s.setRx (rxPhase f.payload.length k) (f.wire.take k) := by
  induction k, h1 using Nat.le_induction with
  | base =>
    refine State.takeByte_on (b := 0x5A#8) ?_
    rw [hs]
    rfl
  | succ k h1 ih =>
    have more : f.wire.take (k + 1) = f.wire.take k ++ [f.wire[k]'(by rw [length_wire]; omega)] := by
      rw [List.take_append_getElem]
    rw [more, List.foldl_append, ih (by omega)]
    have so_far : (f.wire.take k).length = k := by
      rw [List.length_take, length_wire]
      omega
    refine State.takeByte_on (rxStep_phase so_far h1 h (fun h3 => ?_) hk)
    exact (congrArg frameLength more.symm).trans (frameLength_take_wire f h h3)

/-- Settles O54. -/
theorem frameBytesReceivedAsSent : Obligations.FrameBytesReceivedAsSent := by
  intro f s h hs hh hq
  have last : 6 + f.payload.length < f.wire.length := by rw [length_wire]; omega
  have whole : f.wire = f.wire.take (6 + f.payload.length) ++ [f.wire[6 + f.payload.length]] := by
    rw [List.take_append_getElem, List.take_of_length_le (by rw [length_wire]; omega)]
  have before := State.receive_wire f h hs (k := 6 + f.payload.length) (by omega) (by omega)
  have step : rxStep (rxPhase f.payload.length (6 + f.payload.length)) (f.wire.take (6 + f.payload.length)) f.wire[6 + f.payload.length] =
      .good f.wire := by
    rw [rxPhase, if_neg (by omega), if_neg (by omega), rxStep]
    simp only [← whole]
    rw [if_pos (by rw [length_wire, frameLength_wire f h]), if_pos (checkAgrees_wire f h)]
  conv_lhs => rw [whole]
  rw [List.foldl_append, before]
  refine (State.takeByte_good step).trans ?_
  rw [frameOf_wire f h, State.offerFrame]
  refine (if_pos hq).trans ?_
  exact State.takeNext_inHand hh

/-! ### A byte and the gap timer (R188 to R191) -/

/-- A source that waits still waits after an occurrence of another, or of itself. -/
theorem Notices.waiting_occur_of_waiting {u : Notices} {i : NoticeSource} (k : NoticeSource) (d : EventData)
    (h : tget u.waiting i = true) : tget (u.occur k d).waiting i = true := by
  unfold Notices.occur
  split
  · exact h
  · split
    · exact h
    · rw [tget_tset]
      split
      · rfl
      · exact h

theorem State.notices_takeNext (s : State) : s.takeNext.notices = s.notices := by
  unfold State.takeNext
  split <;> rfl

/-- A source that waits still waits after what the receiver takes again. -/
theorem State.waiting_receive {i : NoticeSource} (fuel : Nat) (l : List Byte) {s : State} (h : tget s.notices.waiting i = true) :
    tget (State.receive fuel l s).notices.waiting i = true := by
  induction fuel generalizing l s with
  | zero => exact h
  | succ fuel ih =>
    cases l with
    | nil => exact h
    | cons b l =>
      rw [State.receive]
      cases rxStep s.link.rxState s.link.rxBytes b with
      | on st bs => exact ih l h
      | drop cause bs => exact ih _ (Notices.waiting_occur_of_waiting srcLink _ h)
      | good bs =>
        refine ih l ?_
        unfold State.offerFrame
        split
        · rw [State.notices_takeNext]
          exact h
        · exact Notices.waiting_occur_of_waiting srcLink _ h

/-- R191: a good frame taken by a queue with room, and the oldest of the queue taken in hand where none is. -/
theorem State.offerFrame_room {s : State} (f : Frame) (hq : s.link.queue.length < 4) :
    (s.offerFrame f).erase [.link, .inbox] = s.erase [.link, .inbox] ∧ (s.offerFrame f).link.rxState = s.link.rxState ∧
      (s.link.inHand.isSome = true → (s.offerFrame f).link.queue = s.link.queue ++ [f] ∧ (s.offerFrame f).inbox = s.inbox) ∧
      ∀ g l, s.link.inHand = none → s.link.queue ++ [f] = g :: l →
        (s.offerFrame f).link.queue = l ∧ (s.offerFrame f).link.inHand = some (g.kind, g.tag) ∧
          (s.offerFrame f).inbox = s.inbox ++ [.request g] := by
  let joined : State := { s with link := { s.link with queue := s.link.queue ++ [f] } }
  have offered : s.offerFrame f = joined.takeNext := if_pos hq
  rw [offered]
  refine ⟨?_, ?_, fun hh => ?_, fun g l hh hg => ?_⟩
  · exact (erase_takeNext _ (by decide)).trans (erase_with_link _ _ (by decide))
  · cases hh : s.link.inHand with
    | some x => rw [State.takeNext_inHand (s := joined) (by rw [show joined.link.inHand = _ from hh]; rfl)]
    | none =>
      obtain ⟨g, l, hg⟩ := List.exists_cons_of_ne_nil (List.append_ne_nil_of_right_ne_nil s.link.queue (List.cons_ne_nil f []))
      rw [State.takeNext_of (s := joined) hh hg]
      rfl
  · rw [State.takeNext_inHand (s := joined) hh]
    exact ⟨rfl, rfl⟩
  · rw [State.takeNext_of (s := joined) hh hg]
    exact ⟨rfl, rfl, rfl⟩

/-- Settles O56, by the state of the receiver. -/
theorem byteReceivedAndGap : Obligations.ByteReceivedAndGap := by
  unfold Obligations.ByteReceivedAndGap
  intro b s quiet all n goesTo dropped lost
  have goes {st : RxState} {bs : List Byte} (h : rxStep s.link.rxState s.link.rxBytes b = .on st bs) : goesTo st bs := by
    have taken : quiet.takeByte b true = quiet.setRx st bs := State.takeByte_on h
    exact (run_quiet s (fun t => t.takeByte b true) (by rw [taken]; rfl)).trans (by rw [taken])
  refine ⟨fun hr => ⟨?_, ?_, ?_⟩, fun hr => ⟨?_, ?_⟩, fun hr h5 h3 => goes ?_, fun hr h5 => ?_, fun hr => ?_, fun hr h7 => goes ?_,
    fun cause hcause => ?_, fun hr h7 hc => ⟨fun hq => ?_, fun hq => ?_⟩⟩
  · have taken : quiet.takeByte b false = quiet := (if_neg (by nofun)).trans (if_pos hr)
    exact (run_quiet s (fun t => t.takeByte b false) (by rw [taken])).trans (by rw [taken])
  · have taken : quiet.takeGap = quiet := if_pos hr
    exact (run_quiet s State.takeGap (by rw [taken])).trans (by rw [taken])
  · have step : rxStep s.link.rxState s.link.rxBytes b = if b = 0x5A#8 then .on .header [b] else .on .hunting [] := by
      rw [hr]
      rfl
    split
    · next hb => exact goes (step.trans (if_pos hb))
    · next hb => exact goes (step.trans (if_neg hb))
  · have taken : quiet.takeByte b false = (quiet.setRx .hunting []).discard .framing s.link.rxBytes :=
      (if_neg (by nofun)).trans (if_neg hr)
    exact (run_quiet s (fun t => t.takeByte b false) (by rw [taken]; rfl)).trans (by rw [taken]; rfl)
  · have taken : quiet.takeGap = (quiet.setRx .hunting []).discard .gap s.link.rxBytes := if_neg hr
    exact (run_quiet s State.takeGap (by rw [taken]; rfl)).trans (by rw [taken]; rfl)
  · rw [hr]
    exact (if_neg h3).trans (if_neg h5)
  · have step : rxStep s.link.rxState s.link.rxBytes b = if n = 0 then .on .check all else .on .payload all := by
      rw [hr]
      exact (if_neg fun h => absurd (h5.symm.trans h.1) (by decide)).trans (if_pos h5)
    split
    · next h0 => exact goes (step.trans (if_pos h0))
    · next h0 => exact goes (step.trans (if_neg h0))
  · have step : rxStep s.link.rxState s.link.rxBytes b = if all.length = 5 + n then .on .check all else .on .payload all := by
      rw [hr]
      rfl
    split
    · next h0 => exact goes (step.trans (if_pos h0))
    · next h0 => exact goes (step.trans (if_neg h0))
  · rw [hr]
    exact if_neg h7
  · have step : rxStep s.link.rxState s.link.rxBytes b = .drop cause all := by
      rcases hcause with ⟨hr, h3, hlong, rfl⟩ | ⟨hr, h7, hbad, rfl⟩
      · rw [hr]
        exact if_pos ⟨h3, hlong⟩
      · rw [hr]
        exact (if_pos h7).trans (if_neg (by rw [hbad]; nofun))
    have taken : quiet.takeByte b true = State.receive (s.rxFuel - 1) (all.drop 1) (dropped cause) := State.takeByte_drop step
    intro t
    refine ⟨?_, ?_, rfl, fun hlevel => ?_⟩
    · exact congrArg (fun u : State => Host.Outcome.next u.finish) taken
    · refine eq_patch_of_erase (F := [.link, .notices, .inbox]) ?_
      rw [erase_receive _ _ _ (by decide), erase_raise _ _ _ (by decide), erase_setRx _ _ _ (by decide), erase_with_inbox _ _ (by decide)]
    · exact State.waiting_receive _ _ (Notices.waiting_occur _ hlevel)
  · have step : rxStep s.link.rxState s.link.rxBytes b = .good all := by
      rw [hr]
      exact (if_pos h7).trans (if_pos hc)
    have taken : quiet.takeByte b true = (quiet.setRx .hunting []).raise srcLink
        (.link .overrun (some (frameOf all).kind) (some (frameOf all).tag)) :=
      (State.takeByte_good (s := quiet) step).trans (if_neg (Nat.not_lt.mpr hq))
    exact (run_quiet s (fun t => t.takeByte b true) (by rw [taken]; rfl)).trans (by rw [taken])
  · have step : rxStep s.link.rxState s.link.rxBytes b = .good all := by
      rw [hr]
      exact (if_pos h7).trans (if_pos hc)
    have taken : quiet.takeByte b true = (quiet.setRx .hunting []).offerFrame (frameOf all) := State.takeByte_good step
    obtain ⟨frame, rx, inHand, free⟩ := State.offerFrame_room (s := quiet.setRx .hunting []) (frameOf all) hq
    refine ⟨_, congrArg (fun u : State => Host.Outcome.next u.finish) taken, eq_patch_of_erase (F := [.link, .inbox]) ?_, rx, inHand, free⟩
    exact frame.trans ((erase_setRx _ _ _ (by decide)).trans (erase_with_inbox _ _ (by decide)))

end Sys2Proof.Machine

/-! ## The Notice Unit and the requests that read -/

namespace Sys2Proof.Machine

/-! ### The choice of a notice (R202) -/

theorem mem_allSources (i : NoticeSource) : i ∈ allSources := by
  decide +revert

theorem sortedLT_allSources : allSources.Pairwise (· < ·) := by decide

/-- R202: of a list in ascending number, the source folded out has the lowest level, and of those with it the lowest number. -/
theorem Notices.foldl_better (u : Notices) {l : List NoticeSource} {i : NoticeSource} (hl : (i :: l).Pairwise (· < ·)) :
    l.foldl u.better i ∈ i :: l ∧ ∀ j ∈ i :: l,
      tget u.levels (l.foldl u.better i) < tget u.levels j ∨
        (tget u.levels (l.foldl u.better i) = tget u.levels j ∧ l.foldl u.better i ≤ j) := by
  induction l generalizing i with
  | nil => exact ⟨List.mem_cons_self, fun j hj => .inr (by rw [List.mem_singleton.mp hj]; exact ⟨rfl, le_rfl⟩)⟩
  | cons x l ih =>
    obtain ⟨below, rest⟩ := List.pairwise_cons.mp hl
    obtain ⟨belowx, restl⟩ := List.pairwise_cons.mp rest
    have hix : i < x := below x List.mem_cons_self
    rw [List.foldl_cons]
    by_cases hb : tget u.levels x < tget u.levels i
    · have first : u.better i x = x := if_pos hb
      rw [first]
      obtain ⟨mem, least⟩ := ih rest
      refine ⟨List.mem_cons_of_mem i mem, fun j hj => ?_⟩
      rcases List.mem_cons.mp hj with rfl | hj
      · rcases least x List.mem_cons_self with h | ⟨h, -⟩
        · exact .inl (h.trans hb)
        · exact .inl (h ▸ hb)
      · exact least j hj
    · have first : u.better i x = i := if_neg hb
      rw [first]
      obtain ⟨mem, least⟩ := ih (List.pairwise_cons.mpr ⟨fun j hj => below j (List.mem_cons_of_mem x hj), restl⟩)
      refine ⟨List.mem_cons.mpr ((List.mem_cons.mp mem).imp_right (List.mem_cons_of_mem x)), fun j hj => ?_⟩
      rcases List.mem_cons.mp hj with rfl | hj
      · exact least j List.mem_cons_self
      · rcases List.mem_cons.mp hj with rfl | hj
        · rcases least i List.mem_cons_self with h | ⟨h, hle⟩
          · exact .inl (h.trans_le (Nat.not_lt.mp hb))
          · rcases Nat.lt_or_eq_of_le (Nat.not_lt.mp hb) with hlt | heq
            · exact .inl (h ▸ hlt)
            · exact .inr ⟨h.trans heq, hle.trans hix.le⟩
        · exact least j (List.mem_cons_of_mem i hj)

/-- R202: a source other than ESTOP's is sendable when it waits at a level below the threshold. -/
theorem Notices.sendable_iff {u : Notices} {i : NoticeSource} (hi : i ≠ 0) :
    u.sendable i = true ↔ tget u.waiting i = true ∧ tget u.levels i < u.threshold := by
  have : decide (i = srcEstop) = false := decide_eq_false hi
  rw [Notices.sendable, this, Bool.false_or, Bool.and_eq_true, decide_eq_true_eq]

/-- R202: what a choice says of the sources that wait. -/
theorem Notices.choose_spec (u : Notices) :
    (tget u.waiting 0 = true → u.choose = some 0) ∧
    (tget u.waiting 0 = false → ∀ i, u.choose = some i →
      tget u.waiting i = true ∧ tget u.levels i < u.threshold ∧
      ∀ j, tget u.waiting j = true → tget u.levels j < u.threshold →
        tget u.levels i < tget u.levels j ∨ (tget u.levels i = tget u.levels j ∧ i ≤ j)) ∧
    (u.choose = none → ∀ j, tget u.waiting j = true → u.threshold ≤ tget u.levels j) := by
  have other {i : NoticeSource} (h0 : tget u.waiting 0 = false) (hi : tget u.waiting i = true) : i ≠ 0 := by
    rintro rfl
    rw [h0] at hi
    cases hi
  have chosen (h0 : tget u.waiting 0 = false) : u.choose =
      (allSources.filter u.sendable).head?.map (fun i => (allSources.filter u.sendable).tail.foldl u.better i) := by
    unfold Notices.choose
    rw [if_neg (show ¬tget u.waiting srcEstop = true from fun h => by rw [show tget u.waiting srcEstop = false from h0] at h; cases h)]
    cases allSources.filter u.sendable <;> rfl
  refine ⟨fun h => if_pos h, fun h0 i hi => ?_, fun hn j hj => ?_⟩
  · rw [chosen h0] at hi
    cases hl : allSources.filter u.sendable with
    | nil =>
      rw [hl] at hi
      cases hi
    | cons x l =>
      rw [hl] at hi
      cases hi
      have sorted : (x :: l).Pairwise (· < ·) := hl ▸ sortedLT_allSources.filter _
      obtain ⟨mem, least⟩ := u.foldl_better sorted
      rw [← hl] at mem
      have sends := (List.mem_filter.mp mem).2
      have waits : tget u.waiting (l.foldl u.better x) = true := ((Bool.and_eq_true _ _).mp sends).1
      refine ⟨waits, ((Notices.sendable_iff (other h0 waits)).mp sends).2, fun j hj hlevel => least j ?_⟩
      rw [← hl]
      exact List.mem_filter.mpr ⟨mem_allSources j, (Notices.sendable_iff (other h0 hj)).mpr ⟨hj, hlevel⟩⟩
  · have h0 : tget u.waiting 0 = false := by
      cases h : tget u.waiting 0 with
      | false => rfl
      | true =>
        rw [show u.choose = some 0 from if_pos h] at hn
        cases hn
    rw [chosen h0] at hn
    have empty : allSources.filter u.sendable = [] := List.head?_eq_none_iff.mp (Option.map_eq_none_iff.mp hn)
    refine Nat.not_lt.mp fun hlevel => ?_
    exact List.filter_eq_nil_iff.mp empty j (mem_allSources j) ((Notices.sendable_iff (other h0 hj)).mpr ⟨hj, hlevel⟩)

/-- R202: a notice offered while the transmitter is IDLE. -/
theorem State.offerNotice_idle {s : State} {i : NoticeSource} (ht : s.link.tx = .idle) (hi : s.notices.choose = some i) :
    s.offerNotice = s.makeNotice i := by
  rw [State.offerNotice, ht]
  dsimp only
  rw [hi]

/-- R204: the pending sources a threshold holds back. -/
theorem Notices.held_eq (u : Notices) : u.held = allSources.filter (fun i =>
    tget u.waiting i && (decide (i ≠ 0) && decide (u.threshold ≤ tget u.levels i))) := by
  refine List.filter_congr fun i _ => ?_
  have estop : decide (i = srcEstop) = !decide (i ≠ 0) := by rw [decide_not, Bool.not_not]; rfl
  have level : decide (tget u.levels i < u.threshold) = !decide (u.threshold ≤ tget u.levels i) := by
    rw [← decide_not]
    exact decide_eq_decide.mpr Nat.not_le.symm
  rw [Notices.sendable, estop, level]
  cases tget u.waiting i <;> cases decide (i ≠ 0) <;> cases decide (u.threshold ≤ tget u.levels i) <;> rfl

/-- Settles O59. -/
theorem noticeChoiceAndThreshold : Obligations.NoticeChoiceAndThreshold := by
  refine ⟨Notices.choose_spec, fun s i ht hi => ?_, fun tag v s => ⟨fun hv => ?_, fun hv => ?_⟩⟩
  · rw [State.offerNotice_idle ht hi]
    exact ⟨_, rfl, rfl, rfl, rfl, tget_tset_same _ _ _, tget_tset_same _ _ _, fun j hj => tget_tset_other _ _ hj⟩
  · exact run_just (owner := fun t => t.reqSetThreshold v) (by decide) (if_pos hv) rfl
  · have owner : (s.heard 0x59 tag).reqSetThreshold v = _ := if_neg (Nat.not_lt.mpr hv)
    rw [← Notices.held_eq { s.notices with threshold := v }]
    exact run_okWith (kind := 0x59) (owner := fun t => t.reqSetThreshold v) (by decide) owner rfl

/-! ### The requests that read (R17, R39, R40, R61, R76, R92, R109, R135, R153, R168, R187, R197) -/

/-- A request whose owner spends free values at most is answered, and changes nothing else. -/
theorem run_read {kind tag : Byte} {owner : State → State × Reply} {s : State} {used : Nat} {r : Reply}
    (h : owner (s.heard kind tag) = ({ s.heard kind tag with choice := s.choice + used }, r)) :
    s.run (State.serve kind tag owner) =
      .next (({ s.heard kind tag with choice := s.choice + used } : State).replied kind tag r).refreshLimits :=
  (run_serve_quiet kind tag owner s (congrArg (fun x => x.1.inbox) h)).trans
    (congrArg (fun x : State × Reply => Host.Outcome.next (x.1.replied kind tag x.2).refreshLimits) h)

/-- R39: READ_ORDER by what the book and the completed list hold. -/
theorem State.reqReadOrder_spec (s : State) (id : Nat) :
    (s.reqReadOrder id).1 = s ∧
      (s.order? id = none → s.completed? id = none → (s.reqReadOrder id).2 = Reply.just .notFound) ∧
      ((s.order? id).isSome = true → (s.reqReadOrder id).2.status = .ok) := by
  unfold State.reqReadOrder
  cases ho : s.order? id with
  | some o => exact ⟨rfl, nofun, fun _ => rfl⟩
  | none =>
    cases hc : s.completed? id with
    | some o => exact ⟨rfl, nofun, nofun⟩
    | none => exact ⟨rfl, fun _ _ => rfl, nofun⟩

/-- A request taken in hand is nothing the order read depends on. -/
theorem State.reqReadOrder_heard (s : State) (kind tag : Byte) (id : Nat) :
    ((s.heard kind tag).reqReadOrder id).2 = (s.reqReadOrder id).2 := by
  unfold State.reqReadOrder
  rw [show (s.heard kind tag).order? id = s.order? id from rfl, show (s.heard kind tag).completed? id = s.completed? id from rfl]
  cases s.order? id with
  | some o => rfl
  | none => cases s.completed? id <;> rfl

theorem State.reqReadStand_of (s : State) (n : Stand) :
    (s.reqReadStand (Stand.number n)).1 = s ∧ (s.reqReadStand (Stand.number n)).2.status = .ok := by
  refine ⟨?_, ?_⟩
  · rw [State.reqReadStand, standOfNumber_number]
  · rw [State.reqReadStand, standOfNumber_number]
    rfl

theorem State.reqReadStand_heard (s : State) (kind tag : Byte) (n : Stand) :
    ((s.heard kind tag).reqReadStand (Stand.number n)).2 = (s.reqReadStand (Stand.number n)).2 := by
  rw [State.reqReadStand, State.reqReadStand, standOfNumber_number]
  rfl

theorem State.reqReadSplice_of (s : State) (n : Stand) :
    (s.reqReadSplice (Stand.number n)).1 = s.spendChoice 1 ∧ (s.reqReadSplice (Stand.number n)).2.status = .ok := by
  refine ⟨?_, ?_⟩
  · rw [State.reqReadSplice, standOfNumber_number]
  · rw [State.reqReadSplice, standOfNumber_number]
    rfl

theorem State.reqReadSplice_heard (s : State) (kind tag : Byte) (n : Stand) :
    ((s.heard kind tag).reqReadSplice (Stand.number n)).2 = (s.reqReadSplice (Stand.number n)).2 := by
  rw [State.reqReadSplice, State.reqReadSplice, standOfNumber_number]
  rfl

/-- Settles O60. -/
theorem readsAnswerAndChangeNothing : Obligations.ReadsAnswerAndChangeNothing := by
  unfold Obligations.ReadsAnswerAndChangeNothing
  intro tag s answers
  refine ⟨run_read (owner := State.reqReadLine) rfl, run_read (owner := State.reqReadMap) rfl, fun id => ⟨?_, ?_⟩,
    run_read (owner := State.reqListOrders) rfl, run_read (owner := State.reqReadCompleted) rfl,
    run_read (owner := State.reqReadKnife) rfl, run_read (owner := State.reqReadSlitter) rfl,
    run_read (owner := State.reqReadStacker) rfl, fun k hk => ⟨?_, ?_⟩, fun n => ⟨?_, ?_⟩, ?_, fun n => ⟨?_, ?_⟩,
    run_read (owner := State.reqReadZones) rfl, run_read (owner := State.reqReadGlue) rfl,
    run_read (owner := State.reqReadSummary) rfl, fun kind => run_read (used := 0) rfl⟩
  · exact run_read (owner := fun t => t.reqReadOrder id)
      (Prod.ext ((s.heard 0x1D tag).reqReadOrder_spec id).1 (s.reqReadOrder_heard _ _ id))
  · exact (s.reqReadOrder_spec id).2
  · have owner : (s.heard 0x3D tag).reqReadStand k = (s.heard 0x3D tag, .just .badValue) := by
      rw [State.reqReadStand, standOfNumber_of_not hk]
    exact run_read (owner := fun t => t.reqReadStand k) (used := 0) owner
  · have owner : (s.heard 0x42 tag).reqReadSplice k = (s.heard 0x42 tag, .just .badValue) := by
      rw [State.reqReadSplice, standOfNumber_of_not hk]
    exact run_read (owner := fun t => t.reqReadSplice k) (used := 0) owner
  · exact run_read (owner := fun t => t.reqReadStand (Stand.number n)) (used := 0)
      (Prod.ext ((s.heard 0x3D tag).reqReadStand_of n).1 (s.reqReadStand_heard _ _ n))
  · exact run_read (owner := fun t => t.reqReadSplice (Stand.number n)) (used := 1)
      (Prod.ext ((s.heard 0x42 tag).reqReadSplice_of n).1 (s.reqReadSplice_heard _ _ n))
  · intro r hr
    simp only [List.mem_cons, List.not_mem_nil, or_false] at hr
    rcases hr with rfl | rfl | rfl | rfl | rfl | rfl | rfl | rfl <;> rfl
  · exact (s.reqReadStand_of n).2
  · exact (s.reqReadSplice_of n).2

end Sys2Proof.Machine
